-- ==== Sys2Proof/Word.lean ====
section
/-! DEFINITION. The word types of the core: spec/00_scope.md rules R5 and R13 (32-bit registers, addresses and
instruction words; 5-bit register and shift fields; a 16-bit immediate field). -/

namespace Sys2Proof

/-- A 32-bit word: a register, an address, an instruction or a counter (R5). Arithmetic on it wraps (R7). -/
abbrev Word := BitVec 32

/-- A byte of memory (R60). -/
abbrev Byte := BitVec 8

/-- A register number, `rs`, `rt` or `rd` of an instruction word (R13, R91). -/
abbrev RegIdx := BitVec 5

/-- A shift amount, `shamt` of an instruction word (R91, R96). -/
abbrev Shamt := BitVec 5

/-- The 16-bit immediate field, `imm16` of an instruction word (R91). -/
abbrev Half := BitVec 16

/-- The opcode or funct field of an instruction word (R91). -/
abbrev Code := BitVec 6

end Sys2Proof
end

