-- ==== Sys2Proof/Config.lean ====
section
/-! DEFINITION. The named parameters of the core (spec/00_scope.md rule R6): what an implementation fixes and no
instruction changes. The spec leaves them open, so they are data of the machine, and every statement is about every
value of them; `Config.reference` is the reference configuration of spec/92_eei_decisions.md D11 with the defaults of
D2, D4 and D6. `PROGRAM` (R6, D14) is not held here: it is the argument of the reset operation. -/

namespace Sys2Proof

/-- The name of a memory region. The source names only "text, data, stack" as examples (R71). -/
inductive RegionName where
  | text
  | data
  | stack
  | other (n : Nat)
deriving DecidableEq, Repr

/-- A memory region: the span of byte addresses from `beginAddr` to `endAddr`, both included (R60). -/
structure Region where
  name : RegionName
  beginAddr : Word
  endAddr : Word
deriving DecidableEq, Repr

/-- The generation of the registers that the Execute stage reads: `OPERAND_READ_GEN` (R6, D2). -/
inductive OperandGen where
  | cur
  | nxt
deriving DecidableEq, Repr

/-- The parameters of R6. -/
structure Config where
  /-- `REGIONS`: the fixed set of memory regions (R60). -/
  regions : List Region
  /-- `TEXT_BASE`: where reset loads the program and where the PC starts (R6, R71). -/
  textBase : Word
  /-- `OPERAND_READ_GEN` (R9, D2). -/
  operandReadGen : OperandGen
  /-- `ADD_RT_INDIRECT` (R141, D4). -/
  addRtIndirect : Bool
  /-- `DIV_SIGNED` (R157, D6). -/
  divSigned : Bool
deriving DecidableEq, Repr

/-- The reference configuration of D11, with the defaults of R6. -/
def Config.reference : Config where
  regions :=
    [⟨.text, 0x00400000, 0x004FFFFF⟩, ⟨.data, 0x10000000, 0x100FFFFF⟩, ⟨.stack, 0x7FF00000, 0x7FFFFFFF⟩]
  textBase := 0x00400000
  operandReadGen := .cur
  addRtIndirect := false
  divSigned := false

end Sys2Proof
end

