-- ==== Sys2Proof/Syntax.lean ====
section
/-! DEFINITION. The instructions: one constructor for each row of spec/opcode_table.json (R97, R98, R99, R102). An R-type
word has the fields rs, rt, rd and shamt (R92), an I-type word the fields rs, rt and imm16 (R93). Fields that a rule
says are ignored are kept, so that no bit of a word is lost. -/

namespace Sys2Proof

/-- The decode class of an instruction (R97). -/
inductive InstrClass where
  | rType
  | addImm
  | logicImm
  | load
  | store
  | other
deriving DecidableEq, Repr

/-- An instruction word, decoded (R90, R109). -/
inductive Instr where
  /-- `add`: opcode 0, funct 0x20 (R141). -/
  | add (rs rt rd : RegIdx) (shamt : Shamt)
  /-- `addu`: opcode 0, funct 0x21 (R142). -/
  | addu (rs rt rd : RegIdx) (shamt : Shamt)
  /-- `sub`: opcode 0, funct 0x22 (R143). -/
  | sub (rs rt rd : RegIdx) (shamt : Shamt)
  /-- `subu`: opcode 0, funct 0x23 (R144). -/
  | subu (rs rt rd : RegIdx) (shamt : Shamt)
  /-- `and`: opcode 0, funct 0x24 (R145). -/
  | and (rs rt rd : RegIdx) (shamt : Shamt)
  /-- `or`: opcode 0, funct 0x25 (R146). -/
  | or (rs rt rd : RegIdx) (shamt : Shamt)
  /-- `xor`: opcode 0, funct 0x26 (R147). -/
  | xor (rs rt rd : RegIdx) (shamt : Shamt)
  /-- `nor`: opcode 0, funct 0x27 (R148). -/
  | nor (rs rt rd : RegIdx) (shamt : Shamt)
  /-- `slt`: opcode 0, funct 0x2a (R149). -/
  | slt (rs rt rd : RegIdx) (shamt : Shamt)
  /-- `sltu`: opcode 0, funct 0x2b (R150). -/
  | sltu (rs rt rd : RegIdx) (shamt : Shamt)
  /-- `sll`: opcode 0, funct 0x00 (R152). -/
  | sll (rs rt rd : RegIdx) (shamt : Shamt)
  /-- `srl`: opcode 0, funct 0x02 (R153). -/
  | srl (rs rt rd : RegIdx) (shamt : Shamt)
  /-- `sra`: opcode 0, funct 0x03 (R154). -/
  | sra (rs rt rd : RegIdx) (shamt : Shamt)
  /-- `mult`: opcode 0, funct 0x18 (R155). -/
  | mult (rs rt rd : RegIdx) (shamt : Shamt)
  /-- `multu`: opcode 0, funct 0x19 (R156). -/
  | multu (rs rt rd : RegIdx) (shamt : Shamt)
  /-- `div`: opcode 0, funct 0x1a (R157). -/
  | div (rs rt rd : RegIdx) (shamt : Shamt)
  /-- `divu`: opcode 0, funct 0x1b (R159). -/
  | divu (rs rt rd : RegIdx) (shamt : Shamt)
  /-- `syscall`: opcode 0, funct 0x0c (R158). -/
  | syscall (rs rt rd : RegIdx) (shamt : Shamt)
  /-- `funct_0x01 (unlisted)`: opcode 0, funct 0x01 (R160). -/
  | funct01 (rs rt rd : RegIdx) (shamt : Shamt)
  /-- `funct_0x04 (unlisted)`: opcode 0, funct 0x04 (R160). -/
  | funct04 (rs rt rd : RegIdx) (shamt : Shamt)
  /-- `funct_0x05 (unlisted)`: opcode 0, funct 0x05 (R160). -/
  | funct05 (rs rt rd : RegIdx) (shamt : Shamt)
  /-- `funct_0x06 (unlisted)`: opcode 0, funct 0x06 (R160). -/
  | funct06 (rs rt rd : RegIdx) (shamt : Shamt)
  /-- `funct_0x07 (unlisted)`: opcode 0, funct 0x07 (R160). -/
  | funct07 (rs rt rd : RegIdx) (shamt : Shamt)
  /-- `funct_0x08 (unlisted)`: opcode 0, funct 0x08 (R160). -/
  | funct08 (rs rt rd : RegIdx) (shamt : Shamt)
  /-- `funct_0x09 (unlisted)`: opcode 0, funct 0x09 (R160). -/
  | funct09 (rs rt rd : RegIdx) (shamt : Shamt)
  /-- `funct_0x0a (unlisted)`: opcode 0, funct 0x0a (R160). -/
  | funct0a (rs rt rd : RegIdx) (shamt : Shamt)
  /-- `funct_0x0b (unlisted)`: opcode 0, funct 0x0b (R160). -/
  | funct0b (rs rt rd : RegIdx) (shamt : Shamt)
  /-- `funct_0x0d (unlisted)`: opcode 0, funct 0x0d (R160). -/
  | funct0d (rs rt rd : RegIdx) (shamt : Shamt)
  /-- `funct_0x0e (unlisted)`: opcode 0, funct 0x0e (R160). -/
  | funct0e (rs rt rd : RegIdx) (shamt : Shamt)
  /-- `funct_0x0f (unlisted)`: opcode 0, funct 0x0f (R160). -/
  | funct0f (rs rt rd : RegIdx) (shamt : Shamt)
  /-- `funct_0x10 (unlisted)`: opcode 0, funct 0x10 (R160). -/
  | funct10 (rs rt rd : RegIdx) (shamt : Shamt)
  /-- `funct_0x11 (unlisted)`: opcode 0, funct 0x11 (R160). -/
  | funct11 (rs rt rd : RegIdx) (shamt : Shamt)
  /-- `funct_0x12 (unlisted)`: opcode 0, funct 0x12 (R160). -/
  | funct12 (rs rt rd : RegIdx) (shamt : Shamt)
  /-- `funct_0x13 (unlisted)`: opcode 0, funct 0x13 (R160). -/
  | funct13 (rs rt rd : RegIdx) (shamt : Shamt)
  /-- `funct_0x14 (unlisted)`: opcode 0, funct 0x14 (R160). -/
  | funct14 (rs rt rd : RegIdx) (shamt : Shamt)
  /-- `funct_0x15 (unlisted)`: opcode 0, funct 0x15 (R160). -/
  | funct15 (rs rt rd : RegIdx) (shamt : Shamt)
  /-- `funct_0x16 (unlisted)`: opcode 0, funct 0x16 (R160). -/
  | funct16 (rs rt rd : RegIdx) (shamt : Shamt)
  /-- `funct_0x17 (unlisted)`: opcode 0, funct 0x17 (R160). -/
  | funct17 (rs rt rd : RegIdx) (shamt : Shamt)
  /-- `funct_0x1c (unlisted)`: opcode 0, funct 0x1c (R160). -/
  | funct1c (rs rt rd : RegIdx) (shamt : Shamt)
  /-- `funct_0x1d (unlisted)`: opcode 0, funct 0x1d (R160). -/
  | funct1d (rs rt rd : RegIdx) (shamt : Shamt)
  /-- `funct_0x1e (unlisted)`: opcode 0, funct 0x1e (R160). -/
  | funct1e (rs rt rd : RegIdx) (shamt : Shamt)
  /-- `funct_0x1f (unlisted)`: opcode 0, funct 0x1f (R160). -/
  | funct1f (rs rt rd : RegIdx) (shamt : Shamt)
  /-- `funct_0x28 (unlisted)`: opcode 0, funct 0x28 (R160). -/
  | funct28 (rs rt rd : RegIdx) (shamt : Shamt)
  /-- `funct_0x29 (unlisted)`: opcode 0, funct 0x29 (R160). -/
  | funct29 (rs rt rd : RegIdx) (shamt : Shamt)
  /-- `funct_0x2c (unlisted)`: opcode 0, funct 0x2c (R160). -/
  | funct2c (rs rt rd : RegIdx) (shamt : Shamt)
  /-- `funct_0x2d (unlisted)`: opcode 0, funct 0x2d (R160). -/
  | funct2d (rs rt rd : RegIdx) (shamt : Shamt)
  /-- `funct_0x2e (unlisted)`: opcode 0, funct 0x2e (R160). -/
  | funct2e (rs rt rd : RegIdx) (shamt : Shamt)
  /-- `funct_0x2f (unlisted)`: opcode 0, funct 0x2f (R160). -/
  | funct2f (rs rt rd : RegIdx) (shamt : Shamt)
  /-- `funct_0x30 (unlisted)`: opcode 0, funct 0x30 (R160). -/
  | funct30 (rs rt rd : RegIdx) (shamt : Shamt)
  /-- `funct_0x31 (unlisted)`: opcode 0, funct 0x31 (R160). -/
  | funct31 (rs rt rd : RegIdx) (shamt : Shamt)
  /-- `funct_0x32 (unlisted)`: opcode 0, funct 0x32 (R160). -/
  | funct32 (rs rt rd : RegIdx) (shamt : Shamt)
  /-- `funct_0x33 (unlisted)`: opcode 0, funct 0x33 (R160). -/
  | funct33 (rs rt rd : RegIdx) (shamt : Shamt)
  /-- `funct_0x34 (unlisted)`: opcode 0, funct 0x34 (R160). -/
  | funct34 (rs rt rd : RegIdx) (shamt : Shamt)
  /-- `funct_0x35 (unlisted)`: opcode 0, funct 0x35 (R160). -/
  | funct35 (rs rt rd : RegIdx) (shamt : Shamt)
  /-- `funct_0x36 (unlisted)`: opcode 0, funct 0x36 (R160). -/
  | funct36 (rs rt rd : RegIdx) (shamt : Shamt)
  /-- `funct_0x37 (unlisted)`: opcode 0, funct 0x37 (R160). -/
  | funct37 (rs rt rd : RegIdx) (shamt : Shamt)
  /-- `funct_0x38 (unlisted)`: opcode 0, funct 0x38 (R160). -/
  | funct38 (rs rt rd : RegIdx) (shamt : Shamt)
  /-- `funct_0x39 (unlisted)`: opcode 0, funct 0x39 (R160). -/
  | funct39 (rs rt rd : RegIdx) (shamt : Shamt)
  /-- `funct_0x3a (unlisted)`: opcode 0, funct 0x3a (R160). -/
  | funct3a (rs rt rd : RegIdx) (shamt : Shamt)
  /-- `funct_0x3b (unlisted)`: opcode 0, funct 0x3b (R160). -/
  | funct3b (rs rt rd : RegIdx) (shamt : Shamt)
  /-- `funct_0x3c (unlisted)`: opcode 0, funct 0x3c (R160). -/
  | funct3c (rs rt rd : RegIdx) (shamt : Shamt)
  /-- `funct_0x3d (unlisted)`: opcode 0, funct 0x3d (R160). -/
  | funct3d (rs rt rd : RegIdx) (shamt : Shamt)
  /-- `funct_0x3e (unlisted)`: opcode 0, funct 0x3e (R160). -/
  | funct3e (rs rt rd : RegIdx) (shamt : Shamt)
  /-- `funct_0x3f (unlisted)`: opcode 0, funct 0x3f (R160). -/
  | funct3f (rs rt rd : RegIdx) (shamt : Shamt)
  /-- `addi`: opcode 0x08 (R181). -/
  | addi (rs rt : RegIdx) (imm : Half)
  /-- `addiu`: opcode 0x09 (R182). -/
  | addiu (rs rt : RegIdx) (imm : Half)
  /-- `andi`: opcode 0x0c (R183). -/
  | andi (rs rt : RegIdx) (imm : Half)
  /-- `ori`: opcode 0x0d (R184). -/
  | ori (rs rt : RegIdx) (imm : Half)
  /-- `xori`: opcode 0x0e (R185). -/
  | xori (rs rt : RegIdx) (imm : Half)
  /-- `lui (32-bit load)`: opcode 0x0f (R205). -/
  | lui (rs rt : RegIdx) (imm : Half)
  /-- `lb (32-bit load)`: opcode 0x20 (R206). -/
  | lb (rs rt : RegIdx) (imm : Half)
  /-- `lh (32-bit load)`: opcode 0x21 (R207). -/
  | lh (rs rt : RegIdx) (imm : Half)
  /-- `lw`: opcode 0x23 (R208). -/
  | lw (rs rt : RegIdx) (imm : Half)
  /-- `sb (32-bit store)`: opcode 0x28 (R209). -/
  | sb (rs rt : RegIdx) (imm : Half)
  /-- `sh (32-bit store)`: opcode 0x29 (R210). -/
  | sh (rs rt : RegIdx) (imm : Half)
  /-- `sw`: opcode 0x2b (R211). -/
  | sw (rs rt : RegIdx) (imm : Half)
  /-- `opcode_0x01 (other: x[rt] <- x[rs] + sext(imm16))`: opcode 0x01 (R187). -/
  | opcode01 (rs rt : RegIdx) (imm : Half)
  /-- `opcode_0x02 (other: x[rt] <- x[rs] + sext(imm16))`: opcode 0x02 (R187). -/
  | opcode02 (rs rt : RegIdx) (imm : Half)
  /-- `opcode_0x03 (other: x[rt] <- x[rs] + sext(imm16))`: opcode 0x03 (R187). -/
  | opcode03 (rs rt : RegIdx) (imm : Half)
  /-- `opcode_0x04 (other: x[rt] <- x[rs] + sext(imm16))`: opcode 0x04 (R187). -/
  | opcode04 (rs rt : RegIdx) (imm : Half)
  /-- `opcode_0x05 (other: x[rt] <- x[rs] + sext(imm16))`: opcode 0x05 (R187). -/
  | opcode05 (rs rt : RegIdx) (imm : Half)
  /-- `opcode_0x06 (other: x[rt] <- x[rs] + sext(imm16))`: opcode 0x06 (R187). -/
  | opcode06 (rs rt : RegIdx) (imm : Half)
  /-- `opcode_0x07 (other: x[rt] <- x[rs] + sext(imm16))`: opcode 0x07 (R187). -/
  | opcode07 (rs rt : RegIdx) (imm : Half)
  /-- `opcode_0x0a (other: x[rt] <- x[rs] + sext(imm16))`: opcode 0x0a (R187). -/
  | opcode0a (rs rt : RegIdx) (imm : Half)
  /-- `opcode_0x0b (other: x[rt] <- x[rs] + sext(imm16))`: opcode 0x0b (R187). -/
  | opcode0b (rs rt : RegIdx) (imm : Half)
  /-- `opcode_0x10 (other: x[rt] <- x[rs] + sext(imm16))`: opcode 0x10 (R187). -/
  | opcode10 (rs rt : RegIdx) (imm : Half)
  /-- `opcode_0x11 (other: x[rt] <- x[rs] + sext(imm16))`: opcode 0x11 (R187). -/
  | opcode11 (rs rt : RegIdx) (imm : Half)
  /-- `opcode_0x12 (other: x[rt] <- x[rs] + sext(imm16))`: opcode 0x12 (R187). -/
  | opcode12 (rs rt : RegIdx) (imm : Half)
  /-- `opcode_0x13 (other: x[rt] <- x[rs] + sext(imm16))`: opcode 0x13 (R187). -/
  | opcode13 (rs rt : RegIdx) (imm : Half)
  /-- `opcode_0x14 (other: x[rt] <- x[rs] + sext(imm16))`: opcode 0x14 (R187). -/
  | opcode14 (rs rt : RegIdx) (imm : Half)
  /-- `opcode_0x15 (other: x[rt] <- x[rs] + sext(imm16))`: opcode 0x15 (R187). -/
  | opcode15 (rs rt : RegIdx) (imm : Half)
  /-- `opcode_0x16 (other: x[rt] <- x[rs] + sext(imm16))`: opcode 0x16 (R187). -/
  | opcode16 (rs rt : RegIdx) (imm : Half)
  /-- `opcode_0x17 (other: x[rt] <- x[rs] + sext(imm16))`: opcode 0x17 (R187). -/
  | opcode17 (rs rt : RegIdx) (imm : Half)
  /-- `opcode_0x18 (other: x[rt] <- x[rs] + sext(imm16))`: opcode 0x18 (R187). -/
  | opcode18 (rs rt : RegIdx) (imm : Half)
  /-- `opcode_0x19 (other: x[rt] <- x[rs] + sext(imm16))`: opcode 0x19 (R187). -/
  | opcode19 (rs rt : RegIdx) (imm : Half)
  /-- `opcode_0x1a (other: x[rt] <- x[rs] + sext(imm16))`: opcode 0x1a (R187). -/
  | opcode1a (rs rt : RegIdx) (imm : Half)
  /-- `opcode_0x1b (other: x[rt] <- x[rs] + sext(imm16))`: opcode 0x1b (R187). -/
  | opcode1b (rs rt : RegIdx) (imm : Half)
  /-- `opcode_0x1c (other: x[rt] <- x[rs] + sext(imm16))`: opcode 0x1c (R187). -/
  | opcode1c (rs rt : RegIdx) (imm : Half)
  /-- `opcode_0x1d (other: x[rt] <- x[rs] + sext(imm16))`: opcode 0x1d (R187). -/
  | opcode1d (rs rt : RegIdx) (imm : Half)
  /-- `opcode_0x1e (other: x[rt] <- x[rs] + sext(imm16))`: opcode 0x1e (R187). -/
  | opcode1e (rs rt : RegIdx) (imm : Half)
  /-- `opcode_0x1f (other: x[rt] <- x[rs] + sext(imm16))`: opcode 0x1f (R187). -/
  | opcode1f (rs rt : RegIdx) (imm : Half)
  /-- `opcode_0x22 (other: x[rt] <- x[rs] + sext(imm16))`: opcode 0x22 (R187). -/
  | opcode22 (rs rt : RegIdx) (imm : Half)
  /-- `opcode_0x24 (other: x[rt] <- x[rs] + sext(imm16))`: opcode 0x24 (R187). -/
  | opcode24 (rs rt : RegIdx) (imm : Half)
  /-- `opcode_0x25 (other: x[rt] <- x[rs] + sext(imm16))`: opcode 0x25 (R187). -/
  | opcode25 (rs rt : RegIdx) (imm : Half)
  /-- `opcode_0x26 (other: x[rt] <- x[rs] + sext(imm16))`: opcode 0x26 (R187). -/
  | opcode26 (rs rt : RegIdx) (imm : Half)
  /-- `opcode_0x27 (other: x[rt] <- x[rs] + sext(imm16))`: opcode 0x27 (R187). -/
  | opcode27 (rs rt : RegIdx) (imm : Half)
  /-- `opcode_0x2a (other: x[rt] <- x[rs] + sext(imm16))`: opcode 0x2a (R187). -/
  | opcode2a (rs rt : RegIdx) (imm : Half)
  /-- `opcode_0x2c (other: x[rt] <- x[rs] + sext(imm16))`: opcode 0x2c (R187). -/
  | opcode2c (rs rt : RegIdx) (imm : Half)
  /-- `opcode_0x2d (other: x[rt] <- x[rs] + sext(imm16))`: opcode 0x2d (R187). -/
  | opcode2d (rs rt : RegIdx) (imm : Half)
  /-- `opcode_0x2e (other: x[rt] <- x[rs] + sext(imm16))`: opcode 0x2e (R187). -/
  | opcode2e (rs rt : RegIdx) (imm : Half)
  /-- `opcode_0x2f (other: x[rt] <- x[rs] + sext(imm16))`: opcode 0x2f (R187). -/
  | opcode2f (rs rt : RegIdx) (imm : Half)
  /-- `opcode_0x30 (other: x[rt] <- x[rs] + sext(imm16))`: opcode 0x30 (R187). -/
  | opcode30 (rs rt : RegIdx) (imm : Half)
  /-- `opcode_0x31 (other: x[rt] <- x[rs] + sext(imm16))`: opcode 0x31 (R187). -/
  | opcode31 (rs rt : RegIdx) (imm : Half)
  /-- `opcode_0x32 (other: x[rt] <- x[rs] + sext(imm16))`: opcode 0x32 (R187). -/
  | opcode32 (rs rt : RegIdx) (imm : Half)
  /-- `opcode_0x33 (other: x[rt] <- x[rs] + sext(imm16))`: opcode 0x33 (R187). -/
  | opcode33 (rs rt : RegIdx) (imm : Half)
  /-- `opcode_0x34 (other: x[rt] <- x[rs] + sext(imm16))`: opcode 0x34 (R187). -/
  | opcode34 (rs rt : RegIdx) (imm : Half)
  /-- `opcode_0x35 (other: x[rt] <- x[rs] + sext(imm16))`: opcode 0x35 (R187). -/
  | opcode35 (rs rt : RegIdx) (imm : Half)
  /-- `opcode_0x36 (other: x[rt] <- x[rs] + sext(imm16))`: opcode 0x36 (R187). -/
  | opcode36 (rs rt : RegIdx) (imm : Half)
  /-- `opcode_0x37 (other: x[rt] <- x[rs] + sext(imm16))`: opcode 0x37 (R187). -/
  | opcode37 (rs rt : RegIdx) (imm : Half)
  /-- `opcode_0x38 (other: x[rt] <- x[rs] + sext(imm16))`: opcode 0x38 (R187). -/
  | opcode38 (rs rt : RegIdx) (imm : Half)
  /-- `opcode_0x39 (other: x[rt] <- x[rs] + sext(imm16))`: opcode 0x39 (R187). -/
  | opcode39 (rs rt : RegIdx) (imm : Half)
  /-- `opcode_0x3a (other: x[rt] <- x[rs] + sext(imm16))`: opcode 0x3a (R187). -/
  | opcode3a (rs rt : RegIdx) (imm : Half)
  /-- `opcode_0x3b (other: x[rt] <- x[rs] + sext(imm16))`: opcode 0x3b (R187). -/
  | opcode3b (rs rt : RegIdx) (imm : Half)
  /-- `opcode_0x3c (other: x[rt] <- x[rs] + sext(imm16))`: opcode 0x3c (R187). -/
  | opcode3c (rs rt : RegIdx) (imm : Half)
  /-- `opcode_0x3d (other: x[rt] <- x[rs] + sext(imm16))`: opcode 0x3d (R187). -/
  | opcode3d (rs rt : RegIdx) (imm : Half)
  /-- `opcode_0x3e (other: x[rt] <- x[rs] + sext(imm16))`: opcode 0x3e (R187). -/
  | opcode3e (rs rt : RegIdx) (imm : Half)
  /-- `opcode_0x3f (other: x[rt] <- x[rs] + sext(imm16))`: opcode 0x3f (R187). -/
  | opcode3f (rs rt : RegIdx) (imm : Half)
deriving DecidableEq, Repr

end Sys2Proof
end

