-- ==== Sys2Proof/WellFormed.lean ====
section
/-! DEFINITION. Well-formedness. An `Instr` needs no check: its fields have the widths of R91, every one of their values
is an encoding, and no encoding is illegal or reserved (R102, R109). What can be ill-formed is a configuration: R60
asks of the regions that `end >= begin` and that they are pairwise non-overlapping, and R6 and R71 that `TEXT_BASE` is
the `begin` of a region named text. -/

namespace Sys2Proof

/-- `end >= begin` (R60). -/
def Region.wellFormed (r : Region) : Bool := decide (r.beginAddr ≤ r.endAddr)

/-- Two regions share no address (R60). -/
def Region.disjoint (r q : Region) : Bool := decide (r.endAddr < q.beginAddr) || decide (q.endAddr < r.beginAddr)

/-- No two regions of the list overlap (R60). -/
def regionsDisjoint : List Region → Bool
  | [] => true
  | r :: rs => rs.all (r.disjoint ·) && regionsDisjoint rs

/-- `TEXT_BASE` is the `begin` of a region named text (R6, R71). -/
def Config.textBaseOk (c : Config) : Bool :=
  c.regions.any (fun r => decide (r.name = .text) && decide (r.beginAddr = c.textBase))

/-- What R6, R60 and R71 ask of the parameters. -/
def Config.wellFormed (c : Config) : Bool :=
  c.regions.all Region.wellFormed && regionsDisjoint c.regions && c.textBaseOk

end Sys2Proof
end

