-- ==== Sys2Proof/Decode.lean ====
section
/-! DEFINITION. Decoding and encoding of the 32-bit instruction word (spec/30_encoding.md): the fields of R91, the
dispatch on `opcode`, and on `funct` when the opcode is 0 (R100), the classes of R97, and the little-endian bytes of
a word (R65). Decoding a word is total (R109): only too few bytes are rejected. -/

namespace Sys2Proof

/-- `opcode(w) = w[31:26]` (R13). -/
def opcodeField (w : Word) : Code := w.extractLsb' 26 6
/-- `rs(w) = w[25:21]` (R13). -/
def rsField (w : Word) : RegIdx := w.extractLsb' 21 5
/-- `rt(w) = w[20:16]` (R13). -/
def rtField (w : Word) : RegIdx := w.extractLsb' 16 5
/-- `rd(w) = w[15:11]` (R13). -/
def rdField (w : Word) : RegIdx := w.extractLsb' 11 5
/-- `shamt(w) = w[10:6]` (R13). -/
def shamtField (w : Word) : Shamt := w.extractLsb' 6 5
/-- `funct(w) = w[5:0]` (R13). -/
def functField (w : Word) : Code := w.extractLsb' 0 6
/-- `imm16(w) = w[15:0]` (R13). -/
def immField (w : Word) : Half := w.extractLsb' 0 16

/-- The R-type instruction of a funct code (R98, R102). The last arm is funct 0x3f, the only code left. -/
def decodeRType (f : Code) (rs rt rd : RegIdx) (sh : Shamt) : Instr :=
  match f with
  | 0x00#6 => .sll rs rt rd sh
  | 0x01#6 => .funct01 rs rt rd sh
  | 0x02#6 => .srl rs rt rd sh
  | 0x03#6 => .sra rs rt rd sh
  | 0x04#6 => .funct04 rs rt rd sh
  | 0x05#6 => .funct05 rs rt rd sh
  | 0x06#6 => .funct06 rs rt rd sh
  | 0x07#6 => .funct07 rs rt rd sh
  | 0x08#6 => .funct08 rs rt rd sh
  | 0x09#6 => .funct09 rs rt rd sh
  | 0x0a#6 => .funct0a rs rt rd sh
  | 0x0b#6 => .funct0b rs rt rd sh
  | 0x0c#6 => .syscall rs rt rd sh
  | 0x0d#6 => .funct0d rs rt rd sh
  | 0x0e#6 => .funct0e rs rt rd sh
  | 0x0f#6 => .funct0f rs rt rd sh
  | 0x10#6 => .funct10 rs rt rd sh
  | 0x11#6 => .funct11 rs rt rd sh
  | 0x12#6 => .funct12 rs rt rd sh
  | 0x13#6 => .funct13 rs rt rd sh
  | 0x14#6 => .funct14 rs rt rd sh
  | 0x15#6 => .funct15 rs rt rd sh
  | 0x16#6 => .funct16 rs rt rd sh
  | 0x17#6 => .funct17 rs rt rd sh
  | 0x18#6 => .mult rs rt rd sh
  | 0x19#6 => .multu rs rt rd sh
  | 0x1a#6 => .div rs rt rd sh
  | 0x1b#6 => .divu rs rt rd sh
  | 0x1c#6 => .funct1c rs rt rd sh
  | 0x1d#6 => .funct1d rs rt rd sh
  | 0x1e#6 => .funct1e rs rt rd sh
  | 0x1f#6 => .funct1f rs rt rd sh
  | 0x20#6 => .add rs rt rd sh
  | 0x21#6 => .addu rs rt rd sh
  | 0x22#6 => .sub rs rt rd sh
  | 0x23#6 => .subu rs rt rd sh
  | 0x24#6 => .and rs rt rd sh
  | 0x25#6 => .or rs rt rd sh
  | 0x26#6 => .xor rs rt rd sh
  | 0x27#6 => .nor rs rt rd sh
  | 0x28#6 => .funct28 rs rt rd sh
  | 0x29#6 => .funct29 rs rt rd sh
  | 0x2a#6 => .slt rs rt rd sh
  | 0x2b#6 => .sltu rs rt rd sh
  | 0x2c#6 => .funct2c rs rt rd sh
  | 0x2d#6 => .funct2d rs rt rd sh
  | 0x2e#6 => .funct2e rs rt rd sh
  | 0x2f#6 => .funct2f rs rt rd sh
  | 0x30#6 => .funct30 rs rt rd sh
  | 0x31#6 => .funct31 rs rt rd sh
  | 0x32#6 => .funct32 rs rt rd sh
  | 0x33#6 => .funct33 rs rt rd sh
  | 0x34#6 => .funct34 rs rt rd sh
  | 0x35#6 => .funct35 rs rt rd sh
  | 0x36#6 => .funct36 rs rt rd sh
  | 0x37#6 => .funct37 rs rt rd sh
  | 0x38#6 => .funct38 rs rt rd sh
  | 0x39#6 => .funct39 rs rt rd sh
  | 0x3a#6 => .funct3a rs rt rd sh
  | 0x3b#6 => .funct3b rs rt rd sh
  | 0x3c#6 => .funct3c rs rt rd sh
  | 0x3d#6 => .funct3d rs rt rd sh
  | 0x3e#6 => .funct3e rs rt rd sh
  | _ => .funct3f rs rt rd sh

/-- The I-type instruction of a nonzero opcode (R97, R99). The last arm is opcode 0x3f: `decodeWord` asks only for the
opcodes 0x01 to 0x3f. -/
def decodeIType (op : Code) (rs rt : RegIdx) (imm : Half) : Instr :=
  match op with
  | 0x01#6 => .opcode01 rs rt imm
  | 0x02#6 => .opcode02 rs rt imm
  | 0x03#6 => .opcode03 rs rt imm
  | 0x04#6 => .opcode04 rs rt imm
  | 0x05#6 => .opcode05 rs rt imm
  | 0x06#6 => .opcode06 rs rt imm
  | 0x07#6 => .opcode07 rs rt imm
  | 0x08#6 => .addi rs rt imm
  | 0x09#6 => .addiu rs rt imm
  | 0x0a#6 => .opcode0a rs rt imm
  | 0x0b#6 => .opcode0b rs rt imm
  | 0x0c#6 => .andi rs rt imm
  | 0x0d#6 => .ori rs rt imm
  | 0x0e#6 => .xori rs rt imm
  | 0x0f#6 => .lui rs rt imm
  | 0x10#6 => .opcode10 rs rt imm
  | 0x11#6 => .opcode11 rs rt imm
  | 0x12#6 => .opcode12 rs rt imm
  | 0x13#6 => .opcode13 rs rt imm
  | 0x14#6 => .opcode14 rs rt imm
  | 0x15#6 => .opcode15 rs rt imm
  | 0x16#6 => .opcode16 rs rt imm
  | 0x17#6 => .opcode17 rs rt imm
  | 0x18#6 => .opcode18 rs rt imm
  | 0x19#6 => .opcode19 rs rt imm
  | 0x1a#6 => .opcode1a rs rt imm
  | 0x1b#6 => .opcode1b rs rt imm
  | 0x1c#6 => .opcode1c rs rt imm
  | 0x1d#6 => .opcode1d rs rt imm
  | 0x1e#6 => .opcode1e rs rt imm
  | 0x1f#6 => .opcode1f rs rt imm
  | 0x20#6 => .lb rs rt imm
  | 0x21#6 => .lh rs rt imm
  | 0x22#6 => .opcode22 rs rt imm
  | 0x23#6 => .lw rs rt imm
  | 0x24#6 => .opcode24 rs rt imm
  | 0x25#6 => .opcode25 rs rt imm
  | 0x26#6 => .opcode26 rs rt imm
  | 0x27#6 => .opcode27 rs rt imm
  | 0x28#6 => .sb rs rt imm
  | 0x29#6 => .sh rs rt imm
  | 0x2a#6 => .opcode2a rs rt imm
  | 0x2b#6 => .sw rs rt imm
  | 0x2c#6 => .opcode2c rs rt imm
  | 0x2d#6 => .opcode2d rs rt imm
  | 0x2e#6 => .opcode2e rs rt imm
  | 0x2f#6 => .opcode2f rs rt imm
  | 0x30#6 => .opcode30 rs rt imm
  | 0x31#6 => .opcode31 rs rt imm
  | 0x32#6 => .opcode32 rs rt imm
  | 0x33#6 => .opcode33 rs rt imm
  | 0x34#6 => .opcode34 rs rt imm
  | 0x35#6 => .opcode35 rs rt imm
  | 0x36#6 => .opcode36 rs rt imm
  | 0x37#6 => .opcode37 rs rt imm
  | 0x38#6 => .opcode38 rs rt imm
  | 0x39#6 => .opcode39 rs rt imm
  | 0x3a#6 => .opcode3a rs rt imm
  | 0x3b#6 => .opcode3b rs rt imm
  | 0x3c#6 => .opcode3c rs rt imm
  | 0x3d#6 => .opcode3d rs rt imm
  | 0x3e#6 => .opcode3e rs rt imm
  | _ => .opcode3f rs rt imm

/-- The instruction of a word: total (R109), by `opcode`, and by `funct` when the opcode is 0 (R97, R98, R99). -/
def decodeWord (w : Word) : Instr :=
  if opcodeField w = 0#6 then
    decodeRType (functField w) (rsField w) (rtField w) (rdField w) (shamtField w)
  else
    decodeIType (opcodeField w) (rsField w) (rtField w) (immField w)

/-- Why bytes are no instruction: an instruction is one 32-bit word (R90), and fewer than four bytes stand there. -/
inductive DecodeError where
  | truncated (have_ : Nat)
deriving DecidableEq, Repr

/-- The word of four bytes, the first at the lowest address: little-endian (R65). -/
def wordOfBytes (b0 b1 b2 b3 : Byte) : Word := b3 ++ b2 ++ b1 ++ b0

/-- Byte `k` of a word, byte 0 being bits 7 to 0 (R63, R65). -/
def byteOfWord (w : Word) (k : Nat) : Byte := w.extractLsb' (8 * k) 8

/-- The instruction at the front of a list of bytes, and the bytes after it (R65, R90). -/
def decode : List Byte → Except DecodeError (Instr × List Byte)
  | b0 :: b1 :: b2 :: b3 :: rest => .ok (decodeWord (wordOfBytes b0 b1 b2 b3), rest)
  | bs => .error (.truncated bs.length)

/-- The four bytes of a word as the core stores them, lowest address first (R65). -/
def bytesOfWord (w : Word) : List Byte := [byteOfWord w 0, byteOfWord w 1, byteOfWord w 2, byteOfWord w 3]

/-- The decoder on the bits of an opcode-table row: `w` holds the instruction's 32 bits, bit 0 the least significant. -/
def decodeTableWord (nbits w : Nat) : Option Instr :=
  match decode (bytesOfWord (BitVec.ofNat 32 (w % 2 ^ nbits))) with
  | .ok (i, []) => some i
  | _ => none

/-- The R-format word (R92). -/
def rWord (rs rt rd : RegIdx) (sh : Shamt) (f : Code) : Word := 0#6 ++ rs ++ rt ++ rd ++ sh ++ f

/-- The I-format word (R93). -/
def iWord (op : Code) (rs rt : RegIdx) (imm : Half) : Word := op ++ rs ++ rt ++ imm

/-- The word of an instruction (R92, R93, and the codes of R97 to R99). -/
def encode : Instr → Word
  | .add rs rt rd sh => rWord rs rt rd sh 0x20#6
  | .addu rs rt rd sh => rWord rs rt rd sh 0x21#6
  | .sub rs rt rd sh => rWord rs rt rd sh 0x22#6
  | .subu rs rt rd sh => rWord rs rt rd sh 0x23#6
  | .and rs rt rd sh => rWord rs rt rd sh 0x24#6
  | .or rs rt rd sh => rWord rs rt rd sh 0x25#6
  | .xor rs rt rd sh => rWord rs rt rd sh 0x26#6
  | .nor rs rt rd sh => rWord rs rt rd sh 0x27#6
  | .slt rs rt rd sh => rWord rs rt rd sh 0x2a#6
  | .sltu rs rt rd sh => rWord rs rt rd sh 0x2b#6
  | .sll rs rt rd sh => rWord rs rt rd sh 0x00#6
  | .srl rs rt rd sh => rWord rs rt rd sh 0x02#6
  | .sra rs rt rd sh => rWord rs rt rd sh 0x03#6
  | .mult rs rt rd sh => rWord rs rt rd sh 0x18#6
  | .multu rs rt rd sh => rWord rs rt rd sh 0x19#6
  | .div rs rt rd sh => rWord rs rt rd sh 0x1a#6
  | .divu rs rt rd sh => rWord rs rt rd sh 0x1b#6
  | .syscall rs rt rd sh => rWord rs rt rd sh 0x0c#6
  | .funct01 rs rt rd sh => rWord rs rt rd sh 0x01#6
  | .funct04 rs rt rd sh => rWord rs rt rd sh 0x04#6
  | .funct05 rs rt rd sh => rWord rs rt rd sh 0x05#6
  | .funct06 rs rt rd sh => rWord rs rt rd sh 0x06#6
  | .funct07 rs rt rd sh => rWord rs rt rd sh 0x07#6
  | .funct08 rs rt rd sh => rWord rs rt rd sh 0x08#6
  | .funct09 rs rt rd sh => rWord rs rt rd sh 0x09#6
  | .funct0a rs rt rd sh => rWord rs rt rd sh 0x0a#6
  | .funct0b rs rt rd sh => rWord rs rt rd sh 0x0b#6
  | .funct0d rs rt rd sh => rWord rs rt rd sh 0x0d#6
  | .funct0e rs rt rd sh => rWord rs rt rd sh 0x0e#6
  | .funct0f rs rt rd sh => rWord rs rt rd sh 0x0f#6
  | .funct10 rs rt rd sh => rWord rs rt rd sh 0x10#6
  | .funct11 rs rt rd sh => rWord rs rt rd sh 0x11#6
  | .funct12 rs rt rd sh => rWord rs rt rd sh 0x12#6
  | .funct13 rs rt rd sh => rWord rs rt rd sh 0x13#6
  | .funct14 rs rt rd sh => rWord rs rt rd sh 0x14#6
  | .funct15 rs rt rd sh => rWord rs rt rd sh 0x15#6
  | .funct16 rs rt rd sh => rWord rs rt rd sh 0x16#6
  | .funct17 rs rt rd sh => rWord rs rt rd sh 0x17#6
  | .funct1c rs rt rd sh => rWord rs rt rd sh 0x1c#6
  | .funct1d rs rt rd sh => rWord rs rt rd sh 0x1d#6
  | .funct1e rs rt rd sh => rWord rs rt rd sh 0x1e#6
  | .funct1f rs rt rd sh => rWord rs rt rd sh 0x1f#6
  | .funct28 rs rt rd sh => rWord rs rt rd sh 0x28#6
  | .funct29 rs rt rd sh => rWord rs rt rd sh 0x29#6
  | .funct2c rs rt rd sh => rWord rs rt rd sh 0x2c#6
  | .funct2d rs rt rd sh => rWord rs rt rd sh 0x2d#6
  | .funct2e rs rt rd sh => rWord rs rt rd sh 0x2e#6
  | .funct2f rs rt rd sh => rWord rs rt rd sh 0x2f#6
  | .funct30 rs rt rd sh => rWord rs rt rd sh 0x30#6
  | .funct31 rs rt rd sh => rWord rs rt rd sh 0x31#6
  | .funct32 rs rt rd sh => rWord rs rt rd sh 0x32#6
  | .funct33 rs rt rd sh => rWord rs rt rd sh 0x33#6
  | .funct34 rs rt rd sh => rWord rs rt rd sh 0x34#6
  | .funct35 rs rt rd sh => rWord rs rt rd sh 0x35#6
  | .funct36 rs rt rd sh => rWord rs rt rd sh 0x36#6
  | .funct37 rs rt rd sh => rWord rs rt rd sh 0x37#6
  | .funct38 rs rt rd sh => rWord rs rt rd sh 0x38#6
  | .funct39 rs rt rd sh => rWord rs rt rd sh 0x39#6
  | .funct3a rs rt rd sh => rWord rs rt rd sh 0x3a#6
  | .funct3b rs rt rd sh => rWord rs rt rd sh 0x3b#6
  | .funct3c rs rt rd sh => rWord rs rt rd sh 0x3c#6
  | .funct3d rs rt rd sh => rWord rs rt rd sh 0x3d#6
  | .funct3e rs rt rd sh => rWord rs rt rd sh 0x3e#6
  | .funct3f rs rt rd sh => rWord rs rt rd sh 0x3f#6
  | .addi rs rt imm => iWord 0x08#6 rs rt imm
  | .addiu rs rt imm => iWord 0x09#6 rs rt imm
  | .andi rs rt imm => iWord 0x0c#6 rs rt imm
  | .ori rs rt imm => iWord 0x0d#6 rs rt imm
  | .xori rs rt imm => iWord 0x0e#6 rs rt imm
  | .lui rs rt imm => iWord 0x0f#6 rs rt imm
  | .lb rs rt imm => iWord 0x20#6 rs rt imm
  | .lh rs rt imm => iWord 0x21#6 rs rt imm
  | .lw rs rt imm => iWord 0x23#6 rs rt imm
  | .sb rs rt imm => iWord 0x28#6 rs rt imm
  | .sh rs rt imm => iWord 0x29#6 rs rt imm
  | .sw rs rt imm => iWord 0x2b#6 rs rt imm
  | .opcode01 rs rt imm => iWord 0x01#6 rs rt imm
  | .opcode02 rs rt imm => iWord 0x02#6 rs rt imm
  | .opcode03 rs rt imm => iWord 0x03#6 rs rt imm
  | .opcode04 rs rt imm => iWord 0x04#6 rs rt imm
  | .opcode05 rs rt imm => iWord 0x05#6 rs rt imm
  | .opcode06 rs rt imm => iWord 0x06#6 rs rt imm
  | .opcode07 rs rt imm => iWord 0x07#6 rs rt imm
  | .opcode0a rs rt imm => iWord 0x0a#6 rs rt imm
  | .opcode0b rs rt imm => iWord 0x0b#6 rs rt imm
  | .opcode10 rs rt imm => iWord 0x10#6 rs rt imm
  | .opcode11 rs rt imm => iWord 0x11#6 rs rt imm
  | .opcode12 rs rt imm => iWord 0x12#6 rs rt imm
  | .opcode13 rs rt imm => iWord 0x13#6 rs rt imm
  | .opcode14 rs rt imm => iWord 0x14#6 rs rt imm
  | .opcode15 rs rt imm => iWord 0x15#6 rs rt imm
  | .opcode16 rs rt imm => iWord 0x16#6 rs rt imm
  | .opcode17 rs rt imm => iWord 0x17#6 rs rt imm
  | .opcode18 rs rt imm => iWord 0x18#6 rs rt imm
  | .opcode19 rs rt imm => iWord 0x19#6 rs rt imm
  | .opcode1a rs rt imm => iWord 0x1a#6 rs rt imm
  | .opcode1b rs rt imm => iWord 0x1b#6 rs rt imm
  | .opcode1c rs rt imm => iWord 0x1c#6 rs rt imm
  | .opcode1d rs rt imm => iWord 0x1d#6 rs rt imm
  | .opcode1e rs rt imm => iWord 0x1e#6 rs rt imm
  | .opcode1f rs rt imm => iWord 0x1f#6 rs rt imm
  | .opcode22 rs rt imm => iWord 0x22#6 rs rt imm
  | .opcode24 rs rt imm => iWord 0x24#6 rs rt imm
  | .opcode25 rs rt imm => iWord 0x25#6 rs rt imm
  | .opcode26 rs rt imm => iWord 0x26#6 rs rt imm
  | .opcode27 rs rt imm => iWord 0x27#6 rs rt imm
  | .opcode2a rs rt imm => iWord 0x2a#6 rs rt imm
  | .opcode2c rs rt imm => iWord 0x2c#6 rs rt imm
  | .opcode2d rs rt imm => iWord 0x2d#6 rs rt imm
  | .opcode2e rs rt imm => iWord 0x2e#6 rs rt imm
  | .opcode2f rs rt imm => iWord 0x2f#6 rs rt imm
  | .opcode30 rs rt imm => iWord 0x30#6 rs rt imm
  | .opcode31 rs rt imm => iWord 0x31#6 rs rt imm
  | .opcode32 rs rt imm => iWord 0x32#6 rs rt imm
  | .opcode33 rs rt imm => iWord 0x33#6 rs rt imm
  | .opcode34 rs rt imm => iWord 0x34#6 rs rt imm
  | .opcode35 rs rt imm => iWord 0x35#6 rs rt imm
  | .opcode36 rs rt imm => iWord 0x36#6 rs rt imm
  | .opcode37 rs rt imm => iWord 0x37#6 rs rt imm
  | .opcode38 rs rt imm => iWord 0x38#6 rs rt imm
  | .opcode39 rs rt imm => iWord 0x39#6 rs rt imm
  | .opcode3a rs rt imm => iWord 0x3a#6 rs rt imm
  | .opcode3b rs rt imm => iWord 0x3b#6 rs rt imm
  | .opcode3c rs rt imm => iWord 0x3c#6 rs rt imm
  | .opcode3d rs rt imm => iWord 0x3d#6 rs rt imm
  | .opcode3e rs rt imm => iWord 0x3e#6 rs rt imm
  | .opcode3f rs rt imm => iWord 0x3f#6 rs rt imm

/-- The bytes of an instruction as memory holds them, lowest address first (R65). -/
def encodeBytes (i : Instr) : List Byte := bytesOfWord (encode i)

/-- The decode class of an instruction (the table of R97). -/
def Instr.cls : Instr → InstrClass
  | .add _ _ _ _ => .rType
  | .addu _ _ _ _ => .rType
  | .sub _ _ _ _ => .rType
  | .subu _ _ _ _ => .rType
  | .and _ _ _ _ => .rType
  | .or _ _ _ _ => .rType
  | .xor _ _ _ _ => .rType
  | .nor _ _ _ _ => .rType
  | .slt _ _ _ _ => .rType
  | .sltu _ _ _ _ => .rType
  | .sll _ _ _ _ => .rType
  | .srl _ _ _ _ => .rType
  | .sra _ _ _ _ => .rType
  | .mult _ _ _ _ => .rType
  | .multu _ _ _ _ => .rType
  | .div _ _ _ _ => .rType
  | .divu _ _ _ _ => .rType
  | .syscall _ _ _ _ => .rType
  | .funct01 _ _ _ _ => .rType
  | .funct04 _ _ _ _ => .rType
  | .funct05 _ _ _ _ => .rType
  | .funct06 _ _ _ _ => .rType
  | .funct07 _ _ _ _ => .rType
  | .funct08 _ _ _ _ => .rType
  | .funct09 _ _ _ _ => .rType
  | .funct0a _ _ _ _ => .rType
  | .funct0b _ _ _ _ => .rType
  | .funct0d _ _ _ _ => .rType
  | .funct0e _ _ _ _ => .rType
  | .funct0f _ _ _ _ => .rType
  | .funct10 _ _ _ _ => .rType
  | .funct11 _ _ _ _ => .rType
  | .funct12 _ _ _ _ => .rType
  | .funct13 _ _ _ _ => .rType
  | .funct14 _ _ _ _ => .rType
  | .funct15 _ _ _ _ => .rType
  | .funct16 _ _ _ _ => .rType
  | .funct17 _ _ _ _ => .rType
  | .funct1c _ _ _ _ => .rType
  | .funct1d _ _ _ _ => .rType
  | .funct1e _ _ _ _ => .rType
  | .funct1f _ _ _ _ => .rType
  | .funct28 _ _ _ _ => .rType
  | .funct29 _ _ _ _ => .rType
  | .funct2c _ _ _ _ => .rType
  | .funct2d _ _ _ _ => .rType
  | .funct2e _ _ _ _ => .rType
  | .funct2f _ _ _ _ => .rType
  | .funct30 _ _ _ _ => .rType
  | .funct31 _ _ _ _ => .rType
  | .funct32 _ _ _ _ => .rType
  | .funct33 _ _ _ _ => .rType
  | .funct34 _ _ _ _ => .rType
  | .funct35 _ _ _ _ => .rType
  | .funct36 _ _ _ _ => .rType
  | .funct37 _ _ _ _ => .rType
  | .funct38 _ _ _ _ => .rType
  | .funct39 _ _ _ _ => .rType
  | .funct3a _ _ _ _ => .rType
  | .funct3b _ _ _ _ => .rType
  | .funct3c _ _ _ _ => .rType
  | .funct3d _ _ _ _ => .rType
  | .funct3e _ _ _ _ => .rType
  | .funct3f _ _ _ _ => .rType
  | .addi _ _ _ => .addImm
  | .addiu _ _ _ => .addImm
  | .andi _ _ _ => .logicImm
  | .ori _ _ _ => .logicImm
  | .xori _ _ _ => .logicImm
  | .lui _ _ _ => .load
  | .lb _ _ _ => .load
  | .lh _ _ _ => .load
  | .lw _ _ _ => .load
  | .sb _ _ _ => .store
  | .sh _ _ _ => .store
  | .sw _ _ _ => .store
  | .opcode01 _ _ _ => .other
  | .opcode02 _ _ _ => .other
  | .opcode03 _ _ _ => .other
  | .opcode04 _ _ _ => .other
  | .opcode05 _ _ _ => .other
  | .opcode06 _ _ _ => .other
  | .opcode07 _ _ _ => .other
  | .opcode0a _ _ _ => .other
  | .opcode0b _ _ _ => .other
  | .opcode10 _ _ _ => .other
  | .opcode11 _ _ _ => .other
  | .opcode12 _ _ _ => .other
  | .opcode13 _ _ _ => .other
  | .opcode14 _ _ _ => .other
  | .opcode15 _ _ _ => .other
  | .opcode16 _ _ _ => .other
  | .opcode17 _ _ _ => .other
  | .opcode18 _ _ _ => .other
  | .opcode19 _ _ _ => .other
  | .opcode1a _ _ _ => .other
  | .opcode1b _ _ _ => .other
  | .opcode1c _ _ _ => .other
  | .opcode1d _ _ _ => .other
  | .opcode1e _ _ _ => .other
  | .opcode1f _ _ _ => .other
  | .opcode22 _ _ _ => .other
  | .opcode24 _ _ _ => .other
  | .opcode25 _ _ _ => .other
  | .opcode26 _ _ _ => .other
  | .opcode27 _ _ _ => .other
  | .opcode2a _ _ _ => .other
  | .opcode2c _ _ _ => .other
  | .opcode2d _ _ _ => .other
  | .opcode2e _ _ _ => .other
  | .opcode2f _ _ _ => .other
  | .opcode30 _ _ _ => .other
  | .opcode31 _ _ _ => .other
  | .opcode32 _ _ _ => .other
  | .opcode33 _ _ _ => .other
  | .opcode34 _ _ _ => .other
  | .opcode35 _ _ _ => .other
  | .opcode36 _ _ _ => .other
  | .opcode37 _ _ _ => .other
  | .opcode38 _ _ _ => .other
  | .opcode39 _ _ _ => .other
  | .opcode3a _ _ _ => .other
  | .opcode3b _ _ _ => .other
  | .opcode3c _ _ _ => .other
  | .opcode3d _ _ _ => .other
  | .opcode3e _ _ _ => .other
  | .opcode3f _ _ _ => .other

/-- Whether the instruction has one of the 46 unlisted funct codes (R98, R102). -/
def Instr.isUnlisted : Instr → Bool
  | .add _ _ _ _ => false
  | .addu _ _ _ _ => false
  | .sub _ _ _ _ => false
  | .subu _ _ _ _ => false
  | .and _ _ _ _ => false
  | .or _ _ _ _ => false
  | .xor _ _ _ _ => false
  | .nor _ _ _ _ => false
  | .slt _ _ _ _ => false
  | .sltu _ _ _ _ => false
  | .sll _ _ _ _ => false
  | .srl _ _ _ _ => false
  | .sra _ _ _ _ => false
  | .mult _ _ _ _ => false
  | .multu _ _ _ _ => false
  | .div _ _ _ _ => false
  | .divu _ _ _ _ => false
  | .syscall _ _ _ _ => false
  | .funct01 _ _ _ _ => true
  | .funct04 _ _ _ _ => true
  | .funct05 _ _ _ _ => true
  | .funct06 _ _ _ _ => true
  | .funct07 _ _ _ _ => true
  | .funct08 _ _ _ _ => true
  | .funct09 _ _ _ _ => true
  | .funct0a _ _ _ _ => true
  | .funct0b _ _ _ _ => true
  | .funct0d _ _ _ _ => true
  | .funct0e _ _ _ _ => true
  | .funct0f _ _ _ _ => true
  | .funct10 _ _ _ _ => true
  | .funct11 _ _ _ _ => true
  | .funct12 _ _ _ _ => true
  | .funct13 _ _ _ _ => true
  | .funct14 _ _ _ _ => true
  | .funct15 _ _ _ _ => true
  | .funct16 _ _ _ _ => true
  | .funct17 _ _ _ _ => true
  | .funct1c _ _ _ _ => true
  | .funct1d _ _ _ _ => true
  | .funct1e _ _ _ _ => true
  | .funct1f _ _ _ _ => true
  | .funct28 _ _ _ _ => true
  | .funct29 _ _ _ _ => true
  | .funct2c _ _ _ _ => true
  | .funct2d _ _ _ _ => true
  | .funct2e _ _ _ _ => true
  | .funct2f _ _ _ _ => true
  | .funct30 _ _ _ _ => true
  | .funct31 _ _ _ _ => true
  | .funct32 _ _ _ _ => true
  | .funct33 _ _ _ _ => true
  | .funct34 _ _ _ _ => true
  | .funct35 _ _ _ _ => true
  | .funct36 _ _ _ _ => true
  | .funct37 _ _ _ _ => true
  | .funct38 _ _ _ _ => true
  | .funct39 _ _ _ _ => true
  | .funct3a _ _ _ _ => true
  | .funct3b _ _ _ _ => true
  | .funct3c _ _ _ _ => true
  | .funct3d _ _ _ _ => true
  | .funct3e _ _ _ _ => true
  | .funct3f _ _ _ _ => true
  | .addi _ _ _ => false
  | .addiu _ _ _ => false
  | .andi _ _ _ => false
  | .ori _ _ _ => false
  | .xori _ _ _ => false
  | .lui _ _ _ => false
  | .lb _ _ _ => false
  | .lh _ _ _ => false
  | .lw _ _ _ => false
  | .sb _ _ _ => false
  | .sh _ _ _ => false
  | .sw _ _ _ => false
  | .opcode01 _ _ _ => false
  | .opcode02 _ _ _ => false
  | .opcode03 _ _ _ => false
  | .opcode04 _ _ _ => false
  | .opcode05 _ _ _ => false
  | .opcode06 _ _ _ => false
  | .opcode07 _ _ _ => false
  | .opcode0a _ _ _ => false
  | .opcode0b _ _ _ => false
  | .opcode10 _ _ _ => false
  | .opcode11 _ _ _ => false
  | .opcode12 _ _ _ => false
  | .opcode13 _ _ _ => false
  | .opcode14 _ _ _ => false
  | .opcode15 _ _ _ => false
  | .opcode16 _ _ _ => false
  | .opcode17 _ _ _ => false
  | .opcode18 _ _ _ => false
  | .opcode19 _ _ _ => false
  | .opcode1a _ _ _ => false
  | .opcode1b _ _ _ => false
  | .opcode1c _ _ _ => false
  | .opcode1d _ _ _ => false
  | .opcode1e _ _ _ => false
  | .opcode1f _ _ _ => false
  | .opcode22 _ _ _ => false
  | .opcode24 _ _ _ => false
  | .opcode25 _ _ _ => false
  | .opcode26 _ _ _ => false
  | .opcode27 _ _ _ => false
  | .opcode2a _ _ _ => false
  | .opcode2c _ _ _ => false
  | .opcode2d _ _ _ => false
  | .opcode2e _ _ _ => false
  | .opcode2f _ _ _ => false
  | .opcode30 _ _ _ => false
  | .opcode31 _ _ _ => false
  | .opcode32 _ _ _ => false
  | .opcode33 _ _ _ => false
  | .opcode34 _ _ _ => false
  | .opcode35 _ _ _ => false
  | .opcode36 _ _ _ => false
  | .opcode37 _ _ _ => false
  | .opcode38 _ _ _ => false
  | .opcode39 _ _ _ => false
  | .opcode3a _ _ _ => false
  | .opcode3b _ _ _ => false
  | .opcode3c _ _ _ => false
  | .opcode3d _ _ _ => false
  | .opcode3e _ _ _ => false
  | .opcode3f _ _ _ => false

/-- Whether the instruction divides: `div` or `divu` (R157, R159). -/
def Instr.divides (i : Instr) : Bool :=
  match i with
  | .div _ _ _ _ => true
  | .divu _ _ _ _ => true
  | _ => false

/-- Whether the instruction is a bumping `sll`: one whose `rd` is not 0 (R152, R349). -/
def Instr.bumpsPc (i : Instr) : Bool :=
  match i with
  | .sll _ _ rd _ => rd != 0#5
  | _ => false

/-- The register an instruction writes in Writeback: `rd` for opcode 0, `rt` for every other opcode (R96, R221). -/
def Instr.dest : Instr → RegIdx
  | .add _ _ rd _ => rd
  | .addu _ _ rd _ => rd
  | .sub _ _ rd _ => rd
  | .subu _ _ rd _ => rd
  | .and _ _ rd _ => rd
  | .or _ _ rd _ => rd
  | .xor _ _ rd _ => rd
  | .nor _ _ rd _ => rd
  | .slt _ _ rd _ => rd
  | .sltu _ _ rd _ => rd
  | .sll _ _ rd _ => rd
  | .srl _ _ rd _ => rd
  | .sra _ _ rd _ => rd
  | .mult _ _ rd _ => rd
  | .multu _ _ rd _ => rd
  | .div _ _ rd _ => rd
  | .divu _ _ rd _ => rd
  | .syscall _ _ rd _ => rd
  | .funct01 _ _ rd _ => rd
  | .funct04 _ _ rd _ => rd
  | .funct05 _ _ rd _ => rd
  | .funct06 _ _ rd _ => rd
  | .funct07 _ _ rd _ => rd
  | .funct08 _ _ rd _ => rd
  | .funct09 _ _ rd _ => rd
  | .funct0a _ _ rd _ => rd
  | .funct0b _ _ rd _ => rd
  | .funct0d _ _ rd _ => rd
  | .funct0e _ _ rd _ => rd
  | .funct0f _ _ rd _ => rd
  | .funct10 _ _ rd _ => rd
  | .funct11 _ _ rd _ => rd
  | .funct12 _ _ rd _ => rd
  | .funct13 _ _ rd _ => rd
  | .funct14 _ _ rd _ => rd
  | .funct15 _ _ rd _ => rd
  | .funct16 _ _ rd _ => rd
  | .funct17 _ _ rd _ => rd
  | .funct1c _ _ rd _ => rd
  | .funct1d _ _ rd _ => rd
  | .funct1e _ _ rd _ => rd
  | .funct1f _ _ rd _ => rd
  | .funct28 _ _ rd _ => rd
  | .funct29 _ _ rd _ => rd
  | .funct2c _ _ rd _ => rd
  | .funct2d _ _ rd _ => rd
  | .funct2e _ _ rd _ => rd
  | .funct2f _ _ rd _ => rd
  | .funct30 _ _ rd _ => rd
  | .funct31 _ _ rd _ => rd
  | .funct32 _ _ rd _ => rd
  | .funct33 _ _ rd _ => rd
  | .funct34 _ _ rd _ => rd
  | .funct35 _ _ rd _ => rd
  | .funct36 _ _ rd _ => rd
  | .funct37 _ _ rd _ => rd
  | .funct38 _ _ rd _ => rd
  | .funct39 _ _ rd _ => rd
  | .funct3a _ _ rd _ => rd
  | .funct3b _ _ rd _ => rd
  | .funct3c _ _ rd _ => rd
  | .funct3d _ _ rd _ => rd
  | .funct3e _ _ rd _ => rd
  | .funct3f _ _ rd _ => rd
  | .addi _ rt _ => rt
  | .addiu _ rt _ => rt
  | .andi _ rt _ => rt
  | .ori _ rt _ => rt
  | .xori _ rt _ => rt
  | .lui _ rt _ => rt
  | .lb _ rt _ => rt
  | .lh _ rt _ => rt
  | .lw _ rt _ => rt
  | .sb _ rt _ => rt
  | .sh _ rt _ => rt
  | .sw _ rt _ => rt
  | .opcode01 _ rt _ => rt
  | .opcode02 _ rt _ => rt
  | .opcode03 _ rt _ => rt
  | .opcode04 _ rt _ => rt
  | .opcode05 _ rt _ => rt
  | .opcode06 _ rt _ => rt
  | .opcode07 _ rt _ => rt
  | .opcode0a _ rt _ => rt
  | .opcode0b _ rt _ => rt
  | .opcode10 _ rt _ => rt
  | .opcode11 _ rt _ => rt
  | .opcode12 _ rt _ => rt
  | .opcode13 _ rt _ => rt
  | .opcode14 _ rt _ => rt
  | .opcode15 _ rt _ => rt
  | .opcode16 _ rt _ => rt
  | .opcode17 _ rt _ => rt
  | .opcode18 _ rt _ => rt
  | .opcode19 _ rt _ => rt
  | .opcode1a _ rt _ => rt
  | .opcode1b _ rt _ => rt
  | .opcode1c _ rt _ => rt
  | .opcode1d _ rt _ => rt
  | .opcode1e _ rt _ => rt
  | .opcode1f _ rt _ => rt
  | .opcode22 _ rt _ => rt
  | .opcode24 _ rt _ => rt
  | .opcode25 _ rt _ => rt
  | .opcode26 _ rt _ => rt
  | .opcode27 _ rt _ => rt
  | .opcode2a _ rt _ => rt
  | .opcode2c _ rt _ => rt
  | .opcode2d _ rt _ => rt
  | .opcode2e _ rt _ => rt
  | .opcode2f _ rt _ => rt
  | .opcode30 _ rt _ => rt
  | .opcode31 _ rt _ => rt
  | .opcode32 _ rt _ => rt
  | .opcode33 _ rt _ => rt
  | .opcode34 _ rt _ => rt
  | .opcode35 _ rt _ => rt
  | .opcode36 _ rt _ => rt
  | .opcode37 _ rt _ => rt
  | .opcode38 _ rt _ => rt
  | .opcode39 _ rt _ => rt
  | .opcode3a _ rt _ => rt
  | .opcode3b _ rt _ => rt
  | .opcode3c _ rt _ => rt
  | .opcode3d _ rt _ => rt
  | .opcode3e _ rt _ => rt
  | .opcode3f _ rt _ => rt

/-- Whether the assembler syntax of R106 can write the instruction, so that it needs no raw `.word`: a field that the
syntax does not name must be 0. The unlisted funct codes and the OTHER opcodes have no syntax. `sll $0,$0,0`, the word
0, is also written `nop` (R107). -/
def Instr.hasAssemblerForm : Instr → Bool
  | .add _ _ _ shamt => shamt == 0
  | .addu _ _ _ shamt => shamt == 0
  | .sub _ _ _ shamt => shamt == 0
  | .subu _ _ _ shamt => shamt == 0
  | .and _ _ _ shamt => shamt == 0
  | .or _ _ _ shamt => shamt == 0
  | .xor _ _ _ shamt => shamt == 0
  | .nor _ _ _ shamt => shamt == 0
  | .slt _ _ _ shamt => shamt == 0
  | .sltu _ _ _ shamt => shamt == 0
  | .sll rs _ _ _ => rs == 0
  | .srl rs _ _ _ => rs == 0
  | .sra rs _ _ _ => rs == 0
  | .mult _ _ rd shamt => rd == 0 && shamt == 0
  | .multu _ _ rd shamt => rd == 0 && shamt == 0
  | .div _ _ rd shamt => rd == 0 && shamt == 0
  | .divu _ _ rd shamt => rd == 0 && shamt == 0
  | .syscall rs rt rd shamt => rs == 0 && rt == 0 && rd == 0 && shamt == 0
  | .funct01 _ _ _ _ => false
  | .funct04 _ _ _ _ => false
  | .funct05 _ _ _ _ => false
  | .funct06 _ _ _ _ => false
  | .funct07 _ _ _ _ => false
  | .funct08 _ _ _ _ => false
  | .funct09 _ _ _ _ => false
  | .funct0a _ _ _ _ => false
  | .funct0b _ _ _ _ => false
  | .funct0d _ _ _ _ => false
  | .funct0e _ _ _ _ => false
  | .funct0f _ _ _ _ => false
  | .funct10 _ _ _ _ => false
  | .funct11 _ _ _ _ => false
  | .funct12 _ _ _ _ => false
  | .funct13 _ _ _ _ => false
  | .funct14 _ _ _ _ => false
  | .funct15 _ _ _ _ => false
  | .funct16 _ _ _ _ => false
  | .funct17 _ _ _ _ => false
  | .funct1c _ _ _ _ => false
  | .funct1d _ _ _ _ => false
  | .funct1e _ _ _ _ => false
  | .funct1f _ _ _ _ => false
  | .funct28 _ _ _ _ => false
  | .funct29 _ _ _ _ => false
  | .funct2c _ _ _ _ => false
  | .funct2d _ _ _ _ => false
  | .funct2e _ _ _ _ => false
  | .funct2f _ _ _ _ => false
  | .funct30 _ _ _ _ => false
  | .funct31 _ _ _ _ => false
  | .funct32 _ _ _ _ => false
  | .funct33 _ _ _ _ => false
  | .funct34 _ _ _ _ => false
  | .funct35 _ _ _ _ => false
  | .funct36 _ _ _ _ => false
  | .funct37 _ _ _ _ => false
  | .funct38 _ _ _ _ => false
  | .funct39 _ _ _ _ => false
  | .funct3a _ _ _ _ => false
  | .funct3b _ _ _ _ => false
  | .funct3c _ _ _ _ => false
  | .funct3d _ _ _ _ => false
  | .funct3e _ _ _ _ => false
  | .funct3f _ _ _ _ => false
  | .addi _ _ _ => true
  | .addiu _ _ _ => true
  | .andi _ _ _ => true
  | .ori _ _ _ => true
  | .xori _ _ _ => true
  | .lui rs _ _ => rs == 0
  | .lb _ _ _ => true
  | .lh _ _ _ => true
  | .lw _ _ _ => true
  | .sb _ _ _ => true
  | .sh _ _ _ => true
  | .sw _ _ _ => true
  | .opcode01 _ _ _ => false
  | .opcode02 _ _ _ => false
  | .opcode03 _ _ _ => false
  | .opcode04 _ _ _ => false
  | .opcode05 _ _ _ => false
  | .opcode06 _ _ _ => false
  | .opcode07 _ _ _ => false
  | .opcode0a _ _ _ => false
  | .opcode0b _ _ _ => false
  | .opcode10 _ _ _ => false
  | .opcode11 _ _ _ => false
  | .opcode12 _ _ _ => false
  | .opcode13 _ _ _ => false
  | .opcode14 _ _ _ => false
  | .opcode15 _ _ _ => false
  | .opcode16 _ _ _ => false
  | .opcode17 _ _ _ => false
  | .opcode18 _ _ _ => false
  | .opcode19 _ _ _ => false
  | .opcode1a _ _ _ => false
  | .opcode1b _ _ _ => false
  | .opcode1c _ _ _ => false
  | .opcode1d _ _ _ => false
  | .opcode1e _ _ _ => false
  | .opcode1f _ _ _ => false
  | .opcode22 _ _ _ => false
  | .opcode24 _ _ _ => false
  | .opcode25 _ _ _ => false
  | .opcode26 _ _ _ => false
  | .opcode27 _ _ _ => false
  | .opcode2a _ _ _ => false
  | .opcode2c _ _ _ => false
  | .opcode2d _ _ _ => false
  | .opcode2e _ _ _ => false
  | .opcode2f _ _ _ => false
  | .opcode30 _ _ _ => false
  | .opcode31 _ _ _ => false
  | .opcode32 _ _ _ => false
  | .opcode33 _ _ _ => false
  | .opcode34 _ _ _ => false
  | .opcode35 _ _ _ => false
  | .opcode36 _ _ _ => false
  | .opcode37 _ _ _ => false
  | .opcode38 _ _ _ => false
  | .opcode39 _ _ _ => false
  | .opcode3a _ _ _ => false
  | .opcode3b _ _ _ => false
  | .opcode3c _ _ _ => false
  | .opcode3d _ _ _ => false
  | .opcode3e _ _ _ => false
  | .opcode3f _ _ _ => false

end Sys2Proof
end

