-- ==== Sys2Proof/Machine/State.lean ====
section
/-! DEFINITION. The state of the core (spec/10_state.md): the two generations of the architectural state (R20), the four
pipeline latches (R33), the run flag (R29), the two counters (R30), memory (R60), the diagnostic output (R256), and the
parameters of R6. One field is the model's own: `stage`, the stage whose evaluation is under way. Reset is R36. -/

namespace Sys2Proof.Machine

/-- One generation of the architectural state: `pc`, the 32 general registers, `hi` and `lo` (R20, R22, R25, R26).
Register 0 is an ordinary register (R23). -/
structure Arch where
  pc : Word
  regs : Vector Word 32
  hi : Word
  lo : Word
deriving DecidableEq, Repr

/-- The latch between fetch and decode (R33). -/
structure IfId where
  ir : Word
  pc : Word
deriving DecidableEq, Repr

/-- The latch between decode and execute (R33). -/
structure IdEx where
  ir : Word
  a : Word
  b : Word
  imm : Word
deriving DecidableEq, Repr

/-- The latch between execute and memory (R33). No stage writes `a` (R35). -/
structure ExMem where
  ir : Word
  a : Word
  b : Word
  aluOutput : Word
deriving DecidableEq, Repr

/-- The latch between memory and writeback (R33). -/
structure MemWb where
  ir : Word
  aluOutput : Word
  lmd : Word
deriving DecidableEq, Repr

/-- An event on the operator channel (R256). -/
inductive DiagEvent where
  | divByZero
deriving DecidableEq, Repr

/-- One entry of the diagnostic output: the 1-based number of the cycle in which EX divided, and the event (R256). -/
structure Diagnostic where
  cycle : Nat
  event : DiagEvent
deriving DecidableEq, Repr

/-- The stages whose work depends on the instruction they hold, in the order of evaluation of R241; the fifth stage,
IF, does the same whatever it fetches (R122). -/
inductive Stage where
  | wb
  | mem
  | ex
  | id
deriving DecidableEq, Repr

/-- Memory: (address, byte) pairs in one canonical form, addresses strictly rising and no byte 0. An unlisted address
holds 0, the value reset gives every byte of every region (R36). -/
abbrev Memory := List Host.Cell

/-- Whether the addresses rise strictly and lie above `low`, and no byte is 0. -/
def Memory.wfFrom (low : Nat) : Memory → Bool
  | [] => true
  | (a, b) :: m => decide (low ≤ a) && decide (b ≠ 0#8) && Memory.wfFrom (a + 1) m

/-- The canonical form of a memory. -/
def Memory.wf (m : Memory) : Bool := Memory.wfFrom 0 m

/-- The whole state. -/
structure State where
  /-- The parameters of R6; nothing writes them. -/
  cfg : Config
  /-- `CUR`: the committed generation (R20). -/
  cur : Arch
  /-- `NXT`: the generation being computed in this cycle (R20, R21). -/
  nxt : Arch
  /-- IF/ID (R33). -/
  ifid : IfId
  /-- ID/EX (R33). -/
  idex : IdEx
  /-- EX/MEM (R33). -/
  exmem : ExMem
  /-- MEM/WB (R33). -/
  memwb : MemWb
  /-- The bytes of the regions (R60). -/
  mem : Memory
  /-- The run flag (R29). -/
  running : Bool
  /-- `cycle_count` (R30). -/
  cycleCount : Word
  /-- `instruction_count` (R30). -/
  instructionCount : Word
  /-- The diagnostic output, oldest entry first (R256). -/
  diag : List Diagnostic
  /-- The model's own field: the stage whose evaluation is under way (R241). Between cycles it is `wb`, the stage
  that comes first. -/
  stage : Stage
deriving DecidableEq, Repr

/-- Why the machine stops with a fault: the three names of R12. Each marks a case that the spec leaves unspecified and in
which it asks a model to stop. `cycle` is the number of the cycle (R240, spec/93_implementation_defined.md), 0 while the loader runs;
`diags` is the diagnostic output as it stands at the stop (R304). -/
inductive Fault where
  /-- A 4-byte access (a fetch, a load, a store, the loader) whose first byte lies in a region and whose last byte
  lies past that region's end (R64, D12). Safe: the model stops where the source reads or writes outside a buffer. -/
  | straddleAccess (addr : Word) (cycle : Nat) (diags : List Diagnostic)
  /-- `add` or `addu` with `ADD_RT_INDIRECT` set and an index of 32 or more (R141, D4). Safe: the model stops. -/
  | indirectIndex (cycle : Nat) (diags : List Diagnostic)
  /-- `div` with `DIV_SIGNED` set, dividing 0x80000000 by 0xFFFFFFFF (R157, D6). Safe: the model stops. -/
  | divOverflow (cycle : Nat) (diags : List Diagnostic)
deriving DecidableEq, Repr

/-- Why the machine refuses. -/
inductive Refusal where
  /-- An instruction whose arm in `exec` has no meaning. No arm raises it: every instruction is modelled. Safe. -/
  | notModelled (mnemonic : String)
  /-- Reset with a program that is malformed or missing: no initial state is built (R312). Safe. -/
  | programUnreadable
deriving DecidableEq, Repr

/-- One generation after reset: every register 0, HI and LO 0, the PC at the text base (R36). -/
def Arch.initial (pc : Word) : Arch where
  pc := pc
  regs := Vector.replicate 32 0
  hi := 0
  lo := 0

/-- The state after reset for the parameters `cfg`, before any word of a program is loaded (R36, R330). -/
def State.blank (cfg : Config) : State where
  cfg := cfg
  cur := Arch.initial cfg.textBase
  nxt := Arch.initial cfg.textBase
  ifid := ⟨0, 0⟩
  idex := ⟨0, 0, 0, 0⟩
  exmem := ⟨0, 0, 0, 0⟩
  memwb := ⟨0, 0, 0⟩
  mem := []
  running := true
  cycleCount := 0
  instructionCount := 0
  diag := []
  stage := .wb

/-- The machine right after reset (R36, R332): the reference configuration (D11) and the empty `PROGRAM`. The reset
operation for every configuration and every program is `State.resetWith`. -/
def State.reset : State := State.blank Config.reference

/-- What the host may read between cycles (R251), besides memory, which it reads through `read32`: `NXT` is not among it. -/
structure Inspection where
  cur : Arch
  ifid : IfId
  idex : IdEx
  exmem : ExMem
  memwb : MemWb
  cycleCount : Word
  instructionCount : Word
  running : Bool
  diag : List Diagnostic
deriving DecidableEq, Repr

/-- What the loader answers: memory with the program's words written, and the number of words of the program (R250). -/
structure Loaded where
  mem : Memory
  wordCount : Nat
deriving DecidableEq, Repr

/-- The ports of the block during the cycle that starts from a state (R255). -/
structure Ports where
  imemAddr : Word
  imemRdata : Option Word
  dmemAddr : Option Word
  dmemWe : Bool
  dmemWdata : Word
  dmemRdata : Option Word
  running : Bool
  diagDiv0 : Bool
deriving DecidableEq, Repr

/-- The three outcomes of a step, over this state. -/
abbrev Result := Host.Outcome State Fault Refusal

end Sys2Proof.Machine
end

