-- ==== Sys2Proof/Machine/Flags.lean ====
section
/-! DEFINITION. Flags. The core has no condition codes: no instruction sets a carry, overflow, zero or negative flag
(R28). What the spec computes in their place are the set-on-less-than results (R149, R150), and the one status flag is
`running` (R29). -/

namespace Sys2Proof

/-- The result of `slt`: 1 if `a` is less than `b` as two's-complement numbers, else 0 (R149). -/
def setLessSigned (a b : Word) : Word := if a.toInt < b.toInt then 1#32 else 0#32

/-- The result of `sltu`: 1 if `a` is less than `b` as unsigned numbers, else 0 (R150). -/
def setLessUnsigned (a b : Word) : Word := if a.toNat < b.toNat then 1#32 else 0#32

end Sys2Proof

namespace Sys2Proof.Machine

/-- The value of `x[2]` on which a syscall halts the core: the whole word 0x0000000A (R158). -/
def haltCode : Word := 10#32

/-- `running <- false` (R29, R158). -/
def State.halt (s : State) : State := { s with running := false }

end Sys2Proof.Machine
end

