-- ==== Sys2Proof/Machine/Operands.lean ====
section
/-! DEFINITION. Operands: the registers that EX reads (R9, R96, R140), the immediates (R8, R95), and the register file. The one
addressing mode, base register plus sign-extended displacement (R214), is `State.effectiveAddr`. -/

namespace Sys2Proof

/-- `sext_32`: bit 15 copied into bits 31 to 16 (R8). -/
def sext32 (h : Half) : Word := h.signExtend 32

/-- `zext_32`: bits 31 to 16 are 0 (R8). -/
def zext32 (h : Half) : Word := h.zeroExtend 32

/-- A register number in a 32-bit latch field (R33). -/
def idxWord (r : RegIdx) : Word := r.zeroExtend 32

/-- The register number that a 32-bit latch field holds: its low five bits. The field only ever holds 0 to 31 (R33). -/
def wordIdx (w : Word) : RegIdx := w.truncate 5

end Sys2Proof

namespace Sys2Proof.Machine

/-- General register `i` of a generation (R22). -/
def Arch.reg (g : Arch) (i : RegIdx) : Word := g.regs[i.toNat]'i.isLt

/-- A generation with `v` written into general register `i`, register 0 like every other (R23). -/
def Arch.setReg (g : Arch) (i : RegIdx) (v : Word) : Arch := { g with regs := g.regs.set i.toNat v i.isLt }

/-- `x[i]`: general register `i` of the generation that `OPERAND_READ_GEN` names (R9, D2). -/
def State.x (s : State) (i : RegIdx) : Word :=
  match s.cfg.operandReadGen with
  | .cur => s.cur.reg i
  | .nxt => s.nxt.reg i

/-- `a = x[IDEX.A]`, the rs operand of EX (R140). -/
def State.opA (s : State) : Word := s.x (wordIdx s.idex.a)

/-- `b = x[IDEX.B]`, the rt operand of EX (R140). -/
def State.opB (s : State) : Word := s.x (wordIdx s.idex.b)

/-- The immediate of addi, addiu and the catch-all arm: `IDEX.imm` as ID wrote it, sign-extended (R95). -/
def State.immSigned (s : State) : Word := s.idex.imm

/-- The immediate of andi, ori and xori: the zero-extension of the low 16 bits of `IDEX.imm` (R95, R183). -/
def State.immZero (s : State) : Word := zext32 (s.idex.imm.extractLsb' 0 16)

/-- The effective address: `x[rs] + sext_32(imm16)`, modulo 2^32 (R187, R214). -/
def State.effectiveAddr (s : State) : Word := s.opA + s.immSigned

end Sys2Proof.Machine
end

