-- ==== Sys2Proof/Machine/Ops.lean ====
section
/-! DEFINITION. The shared operations: memory (spec/20_memory.md), the arms of the stages ID, EX, MEM and WB, and the path of
an instruction of each class through them (R97). There is no exception to take and none to return from (R300, R305,
R306): what stops the core is the halt of R158 (`State.halt`). -/

namespace Sys2Proof

/-- `begin <= addr <= end` (R61). -/
def Region.contains (r : Region) (addr : Word) : Bool := decide (r.beginAddr ≤ addr) && decide (addr ≤ r.endAddr)

end Sys2Proof

namespace Sys2Proof.Machine

/-! ### Outcomes -/

/-- Go on with `f` from the next state; a fault or a refusal stops (R240). -/
def andThen (o : Result) (f : State → Result) : Result :=
  match o with
  | .next s => f s
  | .fault r => .fault r
  | .refused r => .refused r

/-! ### Memory -/

/-- The byte at an address: 0 where none is listed, the value reset gives (R36, R74). -/
def byteAt : Memory → Nat → Byte
  | [], _ => 0#8
  | (a, b) :: m, k => if a = k then b else byteAt m k

/-- Memory with byte `v` at address `k`. A byte 0 is not listed. -/
def setByte : Memory → Nat → Byte → Memory
  | [], k, v => if v = 0#8 then [] else [(k, v)]
  | (a, b) :: m, k, v =>
    if k < a then (if v = 0#8 then (a, b) :: m else (k, v) :: (a, b) :: m)
    else if k = a then (if v = 0#8 then m else (k, v) :: m)
    else (a, b) :: setByte m k v

/-- The four bytes from an address, little-endian (R62, R65). -/
def wordAt (m : Memory) (k : Nat) : Word :=
  wordOfBytes (byteAt m k) (byteAt m (k + 1)) (byteAt m (k + 2)) (byteAt m (k + 3))

/-- Memory with the four bytes of `v` written from an address on, little-endian (R63, R65). -/
def setWord (m : Memory) (k : Nat) (v : Word) : Memory :=
  setByte (setByte (setByte (setByte m k (byteOfWord v 0)) (k + 1) (byteOfWord v 1)) (k + 2) (byteOfWord v 2))
    (k + 3) (byteOfWord v 3)

/-- The region containing an address (R61). Only the address itself is looked up. -/
def regionOf (rs : List Region) (addr : Word) : Option Region := rs.find? (Region.contains · addr)

/-- Where an access of four bytes at an address falls (R61, R64, R72). -/
inductive Access where
  | unmapped
  | inside
  | straddles
deriving DecidableEq, Repr

/-- Unmapped, inside one region, or straddling its end: `addr + 3` is the address of the last byte, and an access at one
of the last three bytes of a region straddles (R64). -/
def accessAt (rs : List Region) (addr : Word) : Access :=
  match regionOf rs addr with
  | none => .unmapped
  | some r => if r.endAddr.toNat < addr.toNat + 3 then .straddles else .inside

/-- `read32` (R62). `none` is the straddling access. -/
def read32 (rs : List Region) (m : Memory) (addr : Word) : Option Word :=
  match accessAt rs addr with
  | .unmapped => some 0#32
  | .inside => some (wordAt m addr.toNat)
  | .straddles => none

/-- `write32` (R63). `none` is the straddling access. -/
def write32 (rs : List Region) (m : Memory) (addr v : Word) : Option Memory :=
  match accessAt rs addr with
  | .unmapped => some m
  | .inside => some (setWord m addr.toNat v)
  | .straddles => none

/-- The 1-based number of the cycle under way (R256). -/
def State.cycleNumber (s : State) : Nat := s.cycleCount.toNat + 1

/-- `fault StraddleAccess(addr)` (R64). -/
def State.straddle (s : State) (addr : Word) : Result := .fault (.straddleAccess addr s.cycleNumber s.diag)

/-- `fault IndirectIndex` (R141). -/
def State.indirectFault (s : State) : Result := .fault (.indirectIndex s.cycleNumber s.diag)

/-- `fault DivOverflow` (R157). -/
def State.overflowFault (s : State) : Result := .fault (.divOverflow s.cycleNumber s.diag)

/-- `emit DivByZeroDiagnostic` (R157, R256). -/
def State.emitDivByZero (s : State) : State := { s with diag := s.diag ++ [⟨s.cycleNumber, .divByZero⟩] }

/-! ### The decode stage -/

/-- ID on an opcode-0 word: IR, A and B are written and imm is held (R125, R126). -/
def State.idRType (s : State) (rs rt : RegIdx) : State :=
  { s with idex := { s.idex with ir := s.ifid.ir, a := idxWord rs, b := idxWord rt } }

/-- ID on a word with a nonzero opcode: IR, A, B and the sign-extended immediate (R125, R126). -/
def State.idIType (s : State) (rs rt : RegIdx) (imm : Half) : State :=
  { s with idex := { ir := s.ifid.ir, a := idxWord rs, b := idxWord rt, imm := sext32 imm } }

/-! ### The execute stage -/

/-- `EXMEM.IR <- IDEX.IR`, which EX does for every word before its arm (R140). -/
def State.exIr (s : State) : State := { s with exmem := { s.exmem with ir := s.idex.ir } }

/-- `EXMEM.ALUOutput <- v`. -/
def State.setAlu (s : State) (v : Word) : State := { s with exmem := { s.exmem with aluOutput := v } }

/-- `EXMEM.B <- v`. -/
def State.setStoreValue (s : State) (v : Word) : State := { s with exmem := { s.exmem with b := v } }

/-- `npc <- npc + 4` (R121, R152). -/
def State.bumpPc (s : State) : State := { s with nxt := { s.nxt with pc := s.nxt.pc + 4 } }

/-- The arm of an unguarded operation: the result is written whatever `rd` is. -/
def exAlu (v : State → Word) (s : State) : Result := .next (s.setAlu (v s))

/-- The arm of a guarded operation (R151): with `rd` 0 it writes nothing and ALUOutput is held. -/
def exGuarded (rd : RegIdx) (arm : State → State) (s : State) : Result := .next (if rd = 0#5 then s else arm s)

/-- The arm of `add` and `addu` (R141, R142), the second operand `x[x[rt]]` when `ADD_RT_INDIRECT` is set (D4). -/
def exAdd (s : State) : Result :=
  if s.cfg.addRtIndirect then
    if s.opB.toNat < 32 then .next (s.setAlu (s.opA + s.x (wordIdx s.opB))) else s.indirectFault
  else .next (s.setAlu (s.opA + s.opB))

/-- The arm of `div` and `divu` (R157, R159): by zero, a diagnostic and a held ALUOutput; else the quotient, unsigned and
rounded down, or signed and truncated toward zero. -/
def exDiv (signed : Bool) (s : State) : Result :=
  if s.opB = 0#32 then .next s.emitDivByZero
  else if signed then
    if s.opA = BitVec.intMin 32 ∧ s.opB = BitVec.allOnes 32 then s.overflowFault
    else .next (s.setAlu (s.opA.sdiv s.opB))
  else .next (s.setAlu (s.opA.udiv s.opB))

/-- The arm of `syscall` (R158): `running` is cleared when `x[2]` is 10. -/
def exSyscall (s : State) : Result := .next (if s.x 2#5 = haltCode then s.halt else s)

/-- The arm of an unlisted funct code: nothing beyond EXMEM.IR (R160). -/
def exNothing (s : State) : Result := .next s

/-- The catch-all arm: the effective address, and the store value `x[rt]` captured (R187). -/
def exCatchAll (s : State) : Result := .next ((s.setAlu s.effectiveAddr).setStoreValue s.opB)

/-! ### The memory stage -/

/-- `MEMWB.IR <- EXMEM.IR`, which MEM does for every word (R200). -/
def State.memIr (s : State) : State := { s with memwb := { s.memwb with ir := s.exmem.ir } }

/-- The pass-through arm: ALUOutput is copied, LMD held (R203). -/
def memPass (s : State) : Result :=
  .next { s.memIr with memwb := { s.memIr.memwb with aluOutput := s.exmem.aluOutput } }

/-- The load arm: the whole word at `EXMEM.ALUOutput` into LMD, ALUOutput held (R201). -/
def memLoad (s : State) : Result :=
  match read32 s.cfg.regions s.mem s.exmem.aluOutput with
  | some v => .next { s.memIr with memwb := { s.memIr.memwb with lmd := v } }
  | none => s.straddle s.exmem.aluOutput

/-- The store arm: the whole word `EXMEM.B` at `EXMEM.ALUOutput`, at once; ALUOutput and LMD held (R202). -/
def memStore (s : State) : Result :=
  match write32 s.cfg.regions s.mem s.exmem.aluOutput s.exmem.b with
  | some m => .next { s.memIr with mem := m }
  | none => s.straddle s.exmem.aluOutput

/-! ### The writeback stage -/

/-- The write port (R221, R223) and the counter (R225): one register of `NXT`, and `instruction_count + 1`. -/
def wbWrite (dest : RegIdx) (v : Word) (s : State) : Result :=
  .next { s with nxt := s.nxt.setReg dest v, instructionCount := s.instructionCount + 1 }

/-- The arms for opcode 0 and for the other non-loads: the ALUOutput that MEM/WB holds (R221). -/
def wbAlu (dest : RegIdx) (s : State) : Result := wbWrite dest s.memwb.aluOutput s

/-- The arm for LOADS: the loaded word (R221). -/
def wbLoad (dest : RegIdx) (s : State) : Result := wbWrite dest s.memwb.lmd s

/-! ### The path of an instruction through the stages -/

/-- R-TYPE: ID without an immediate, the arm `ex`, pass-through, `x[rd] <- ALUOutput` (R97). -/
def rTypePath (ex : State → Result) (rs rt rd : RegIdx) (s : State) : Result :=
  match s.stage with
  | .id => .next (s.idRType rs rt)
  | .ex => ex s.exIr
  | .mem => memPass s
  | .wb => wbAlu rd s

/-- ADD-IMM and LOGIC-IMM: the arm writes the ALU value `v`, pass-through, `x[rt] <- ALUOutput` (R97). -/
def immPath (v : State → Word) (rs rt : RegIdx) (imm : Half) (s : State) : Result :=
  match s.stage with
  | .id => .next (s.idIType rs rt imm)
  | .ex => exAlu v s.exIr
  | .mem => memPass s
  | .wb => wbAlu rt s

/-- LOAD: the catch-all arm, `LMD <- read32(EA)`, `x[rt] <- LMD` (R97, R206). -/
def loadPath (rs rt : RegIdx) (imm : Half) (s : State) : Result :=
  match s.stage with
  | .id => .next (s.idIType rs rt imm)
  | .ex => exCatchAll s.exIr
  | .mem => memLoad s
  | .wb => wbLoad rt s

/-- STORE: the catch-all arm, `write32(EA, B)`, `x[rt] <-` the held ALUOutput (R97, R209, R212). -/
def storePath (rs rt : RegIdx) (imm : Half) (s : State) : Result :=
  match s.stage with
  | .id => .next (s.idIType rs rt imm)
  | .ex => exCatchAll s.exIr
  | .mem => memStore s
  | .wb => wbAlu rt s

/-- OTHER: the catch-all arm, pass-through, `x[rt] <- ALUOutput` (R97, R189). -/
def otherPath (rs rt : RegIdx) (imm : Half) (s : State) : Result :=
  match s.stage with
  | .id => .next (s.idIType rs rt imm)
  | .ex => exCatchAll s.exIr
  | .mem => memPass s
  | .wb => wbAlu rt s

/-- An unlisted funct code: R-TYPE with an arm that does nothing (R102, R160). -/
def unlistedPath (rs rt rd : RegIdx) (s : State) : Result := rTypePath exNothing rs rt rd s

end Sys2Proof.Machine
end

