-- ==== Sys2Proof/Machine/Arith.lean ====
section
/-! DEFINITION. Add and subtract (R141 to R144): no flags, no trap, no guard. -/

namespace Sys2Proof.Machine

/-- `add $rd, $rs, $rt` (R141): `a + b` modulo 2^32; signed overflow wraps. -/
def execAdd (rs rt rd : RegIdx) (_sh : Shamt) (s : State) : Result :=
  rTypePath exAdd rs rt rd s

/-- `addu $rd, $rs, $rt` (R142): identical to `add`. -/
def execAddu (rs rt rd : RegIdx) (_sh : Shamt) (s : State) : Result :=
  rTypePath exAdd rs rt rd s

/-- `sub $rd, $rs, $rt` (R143): `a - b` modulo 2^32. -/
def execSub (rs rt rd : RegIdx) (_sh : Shamt) (s : State) : Result :=
  rTypePath (exAlu fun t => t.opA - t.opB) rs rt rd s

/-- `subu $rd, $rs, $rt` (R144): identical to `sub`. -/
def execSubu (rs rt rd : RegIdx) (_sh : Shamt) (s : State) : Result :=
  rTypePath (exAlu fun t => t.opA - t.opB) rs rt rd s

end Sys2Proof.Machine
end

