-- ==== Sys2Proof/Machine/Compare.lean ====
section
/-! DEFINITION. Set-on-less-than (R149, R150), guarded (R151). -/

namespace Sys2Proof.Machine

/-- `slt $rd, $rs, $rt` (R149): signed. -/
def execSlt (rs rt rd : RegIdx) (_sh : Shamt) (s : State) : Result :=
  rTypePath (exGuarded rd fun t => t.setAlu (setLessSigned t.opA t.opB)) rs rt rd s

/-- `sltu $rd, $rs, $rt` (R150): unsigned. -/
def execSltu (rs rt rd : RegIdx) (_sh : Shamt) (s : State) : Result :=
  rTypePath (exGuarded rd fun t => t.setAlu (setLessUnsigned t.opA t.opB)) rs rt rd s

end Sys2Proof.Machine
end

