-- ==== Sys2Proof/Machine/Immediate.lean ====
section
/-! DEFINITION. The immediate operations (R181 to R185): no flags, no guard. -/

namespace Sys2Proof.Machine

/-- `addi $rt, $rs, imm` (R181): `a + sext_32(imm16)` modulo 2^32; signed overflow wraps. -/
def execAddi (rs rt : RegIdx) (imm : Half) (s : State) : Result :=
  immPath (fun t => t.opA + t.immSigned) rs rt imm s

/-- `addiu $rt, $rs, imm` (R182): identical to `addi`. -/
def execAddiu (rs rt : RegIdx) (imm : Half) (s : State) : Result :=
  immPath (fun t => t.opA + t.immSigned) rs rt imm s

/-- `andi $rt, $rs, imm` (R183): with the zero-extended immediate (D5). -/
def execAndi (rs rt : RegIdx) (imm : Half) (s : State) : Result :=
  immPath (fun t => t.opA &&& t.immZero) rs rt imm s

/-- `ori $rt, $rs, imm` (R184): with the zero-extended immediate (D5). -/
def execOri (rs rt : RegIdx) (imm : Half) (s : State) : Result :=
  immPath (fun t => t.opA ||| t.immZero) rs rt imm s

/-- `xori $rt, $rs, imm` (R185): with the zero-extended immediate (D5). -/
def execXori (rs rt : RegIdx) (imm : Half) (s : State) : Result :=
  immPath (fun t => t.opA ^^^ t.immZero) rs rt imm s

end Sys2Proof.Machine
end

