-- ==== Sys2Proof/Machine/Load.lean ====
section
/-! DEFINITION. The loads (R205 to R208): every one moves the whole 32-bit word, from any address. -/

namespace Sys2Proof.Machine

/-- The `lui` slot (R205): a load from `x[rs] + sext_32(imm16)`, not an upper immediate (D7). -/
def execLui (rs rt : RegIdx) (imm : Half) (s : State) : Result :=
  loadPath rs rt imm s

/-- `lb $rt, imm($rs)` (R206): all 32 bits, no masking, no sign extension. -/
def execLb (rs rt : RegIdx) (imm : Half) (s : State) : Result :=
  loadPath rs rt imm s

/-- `lh $rt, imm($rs)` (R207): all 32 bits, no masking, no sign extension. -/
def execLh (rs rt : RegIdx) (imm : Half) (s : State) : Result :=
  loadPath rs rt imm s

/-- `lw $rt, imm($rs)` (R208). -/
def execLw (rs rt : RegIdx) (imm : Half) (s : State) : Result :=
  loadPath rs rt imm s

end Sys2Proof.Machine
end

