-- ==== Sys2Proof/Machine/Logic.lean ====
section
/-! DEFINITION. The logical operations (R145 to R148): no flags, no guard. -/

namespace Sys2Proof.Machine

/-- `and $rd, $rs, $rt` (R145). -/
def execAnd (rs rt rd : RegIdx) (_sh : Shamt) (s : State) : Result :=
  rTypePath (exAlu fun t => t.opA &&& t.opB) rs rt rd s

/-- `or $rd, $rs, $rt` (R146). -/
def execOr (rs rt rd : RegIdx) (_sh : Shamt) (s : State) : Result :=
  rTypePath (exAlu fun t => t.opA ||| t.opB) rs rt rd s

/-- `xor $rd, $rs, $rt` (R147). -/
def execXor (rs rt rd : RegIdx) (_sh : Shamt) (s : State) : Result :=
  rTypePath (exAlu fun t => t.opA ^^^ t.opB) rs rt rd s

/-- `nor $rd, $rs, $rt` (R148). -/
def execNor (rs rt rd : RegIdx) (_sh : Shamt) (s : State) : Result :=
  rTypePath (exAlu fun t => ~~~(t.opA ||| t.opB)) rs rt rd s

end Sys2Proof.Machine
end

