-- ==== Sys2Proof/Machine/MulDiv.lean ====
section
/-! DEFINITION. Multiply and divide (R155 to R157, R159): the low word of the product, or the quotient, into ALUOutput; HI and LO are not written. -/

namespace Sys2Proof.Machine

/-- `mult $rs, $rt` (R155): the low word of the product. -/
def execMult (rs rt rd : RegIdx) (_sh : Shamt) (s : State) : Result :=
  rTypePath (exAlu fun t => t.opA * t.opB) rs rt rd s

/-- `multu $rs, $rt` (R156): identical to `mult`. -/
def execMultu (rs rt rd : RegIdx) (_sh : Shamt) (s : State) : Result :=
  rTypePath (exAlu fun t => t.opA * t.opB) rs rt rd s

/-- `div $rs, $rt` (R157): signed as the parameter `DIV_SIGNED` says (D6). -/
def execDiv (rs rt rd : RegIdx) (_sh : Shamt) (s : State) : Result :=
  rTypePath (fun t => exDiv t.cfg.divSigned t) rs rt rd s

/-- `divu $rs, $rt` (R159): always unsigned. -/
def execDivu (rs rt rd : RegIdx) (_sh : Shamt) (s : State) : Result :=
  rTypePath (exDiv false) rs rt rd s

end Sys2Proof.Machine
end

