-- ==== Sys2Proof/Machine/Other.lean ====
section
/-! DEFINITION. The 51 OTHER opcodes (R99, R189): each one takes the catch-all arm of EX, passes ALUOutput through MEM and
writes it into `x[rt]`; none accesses memory or moves the PC. -/

namespace Sys2Proof.Machine

/-- Opcode 0x01, OTHER (R187, R189). -/
def execOpcode01 (rs rt : RegIdx) (imm : Half) (s : State) : Result :=
  otherPath rs rt imm s

/-- Opcode 0x02, OTHER (R187, R189). -/
def execOpcode02 (rs rt : RegIdx) (imm : Half) (s : State) : Result :=
  otherPath rs rt imm s

/-- Opcode 0x03, OTHER (R187, R189). -/
def execOpcode03 (rs rt : RegIdx) (imm : Half) (s : State) : Result :=
  otherPath rs rt imm s

/-- Opcode 0x04, OTHER (R187, R189). -/
def execOpcode04 (rs rt : RegIdx) (imm : Half) (s : State) : Result :=
  otherPath rs rt imm s

/-- Opcode 0x05, OTHER (R187, R189). -/
def execOpcode05 (rs rt : RegIdx) (imm : Half) (s : State) : Result :=
  otherPath rs rt imm s

/-- Opcode 0x06, OTHER (R187, R189). -/
def execOpcode06 (rs rt : RegIdx) (imm : Half) (s : State) : Result :=
  otherPath rs rt imm s

/-- Opcode 0x07, OTHER (R187, R189). -/
def execOpcode07 (rs rt : RegIdx) (imm : Half) (s : State) : Result :=
  otherPath rs rt imm s

/-- Opcode 0x0a, OTHER (R187, R189). -/
def execOpcode0a (rs rt : RegIdx) (imm : Half) (s : State) : Result :=
  otherPath rs rt imm s

/-- Opcode 0x0b, OTHER (R187, R189). -/
def execOpcode0b (rs rt : RegIdx) (imm : Half) (s : State) : Result :=
  otherPath rs rt imm s

/-- Opcode 0x10, OTHER (R187, R189). -/
def execOpcode10 (rs rt : RegIdx) (imm : Half) (s : State) : Result :=
  otherPath rs rt imm s

/-- Opcode 0x11, OTHER (R187, R189). -/
def execOpcode11 (rs rt : RegIdx) (imm : Half) (s : State) : Result :=
  otherPath rs rt imm s

/-- Opcode 0x12, OTHER (R187, R189). -/
def execOpcode12 (rs rt : RegIdx) (imm : Half) (s : State) : Result :=
  otherPath rs rt imm s

/-- Opcode 0x13, OTHER (R187, R189). -/
def execOpcode13 (rs rt : RegIdx) (imm : Half) (s : State) : Result :=
  otherPath rs rt imm s

/-- Opcode 0x14, OTHER (R187, R189). -/
def execOpcode14 (rs rt : RegIdx) (imm : Half) (s : State) : Result :=
  otherPath rs rt imm s

/-- Opcode 0x15, OTHER (R187, R189). -/
def execOpcode15 (rs rt : RegIdx) (imm : Half) (s : State) : Result :=
  otherPath rs rt imm s

/-- Opcode 0x16, OTHER (R187, R189). -/
def execOpcode16 (rs rt : RegIdx) (imm : Half) (s : State) : Result :=
  otherPath rs rt imm s

/-- Opcode 0x17, OTHER (R187, R189). -/
def execOpcode17 (rs rt : RegIdx) (imm : Half) (s : State) : Result :=
  otherPath rs rt imm s

/-- Opcode 0x18, OTHER (R187, R189). -/
def execOpcode18 (rs rt : RegIdx) (imm : Half) (s : State) : Result :=
  otherPath rs rt imm s

/-- Opcode 0x19, OTHER (R187, R189). -/
def execOpcode19 (rs rt : RegIdx) (imm : Half) (s : State) : Result :=
  otherPath rs rt imm s

/-- Opcode 0x1a, OTHER (R187, R189). -/
def execOpcode1a (rs rt : RegIdx) (imm : Half) (s : State) : Result :=
  otherPath rs rt imm s

/-- Opcode 0x1b, OTHER (R187, R189). -/
def execOpcode1b (rs rt : RegIdx) (imm : Half) (s : State) : Result :=
  otherPath rs rt imm s

/-- Opcode 0x1c, OTHER (R187, R189). -/
def execOpcode1c (rs rt : RegIdx) (imm : Half) (s : State) : Result :=
  otherPath rs rt imm s

/-- Opcode 0x1d, OTHER (R187, R189). -/
def execOpcode1d (rs rt : RegIdx) (imm : Half) (s : State) : Result :=
  otherPath rs rt imm s

/-- Opcode 0x1e, OTHER (R187, R189). -/
def execOpcode1e (rs rt : RegIdx) (imm : Half) (s : State) : Result :=
  otherPath rs rt imm s

/-- Opcode 0x1f, OTHER (R187, R189). -/
def execOpcode1f (rs rt : RegIdx) (imm : Half) (s : State) : Result :=
  otherPath rs rt imm s

/-- Opcode 0x22, OTHER (R187, R189). -/
def execOpcode22 (rs rt : RegIdx) (imm : Half) (s : State) : Result :=
  otherPath rs rt imm s

/-- Opcode 0x24, OTHER (R187, R189). -/
def execOpcode24 (rs rt : RegIdx) (imm : Half) (s : State) : Result :=
  otherPath rs rt imm s

/-- Opcode 0x25, OTHER (R187, R189). -/
def execOpcode25 (rs rt : RegIdx) (imm : Half) (s : State) : Result :=
  otherPath rs rt imm s

/-- Opcode 0x26, OTHER (R187, R189). -/
def execOpcode26 (rs rt : RegIdx) (imm : Half) (s : State) : Result :=
  otherPath rs rt imm s

/-- Opcode 0x27, OTHER (R187, R189). -/
def execOpcode27 (rs rt : RegIdx) (imm : Half) (s : State) : Result :=
  otherPath rs rt imm s

/-- Opcode 0x2a, OTHER (R187, R189). -/
def execOpcode2a (rs rt : RegIdx) (imm : Half) (s : State) : Result :=
  otherPath rs rt imm s

/-- Opcode 0x2c, OTHER (R187, R189). -/
def execOpcode2c (rs rt : RegIdx) (imm : Half) (s : State) : Result :=
  otherPath rs rt imm s

/-- Opcode 0x2d, OTHER (R187, R189). -/
def execOpcode2d (rs rt : RegIdx) (imm : Half) (s : State) : Result :=
  otherPath rs rt imm s

/-- Opcode 0x2e, OTHER (R187, R189). -/
def execOpcode2e (rs rt : RegIdx) (imm : Half) (s : State) : Result :=
  otherPath rs rt imm s

/-- Opcode 0x2f, OTHER (R187, R189). -/
def execOpcode2f (rs rt : RegIdx) (imm : Half) (s : State) : Result :=
  otherPath rs rt imm s

/-- Opcode 0x30, OTHER (R187, R189). -/
def execOpcode30 (rs rt : RegIdx) (imm : Half) (s : State) : Result :=
  otherPath rs rt imm s

/-- Opcode 0x31, OTHER (R187, R189). -/
def execOpcode31 (rs rt : RegIdx) (imm : Half) (s : State) : Result :=
  otherPath rs rt imm s

/-- Opcode 0x32, OTHER (R187, R189). -/
def execOpcode32 (rs rt : RegIdx) (imm : Half) (s : State) : Result :=
  otherPath rs rt imm s

/-- Opcode 0x33, OTHER (R187, R189). -/
def execOpcode33 (rs rt : RegIdx) (imm : Half) (s : State) : Result :=
  otherPath rs rt imm s

/-- Opcode 0x34, OTHER (R187, R189). -/
def execOpcode34 (rs rt : RegIdx) (imm : Half) (s : State) : Result :=
  otherPath rs rt imm s

/-- Opcode 0x35, OTHER (R187, R189). -/
def execOpcode35 (rs rt : RegIdx) (imm : Half) (s : State) : Result :=
  otherPath rs rt imm s

/-- Opcode 0x36, OTHER (R187, R189). -/
def execOpcode36 (rs rt : RegIdx) (imm : Half) (s : State) : Result :=
  otherPath rs rt imm s

/-- Opcode 0x37, OTHER (R187, R189). -/
def execOpcode37 (rs rt : RegIdx) (imm : Half) (s : State) : Result :=
  otherPath rs rt imm s

/-- Opcode 0x38, OTHER (R187, R189). -/
def execOpcode38 (rs rt : RegIdx) (imm : Half) (s : State) : Result :=
  otherPath rs rt imm s

/-- Opcode 0x39, OTHER (R187, R189). -/
def execOpcode39 (rs rt : RegIdx) (imm : Half) (s : State) : Result :=
  otherPath rs rt imm s

/-- Opcode 0x3a, OTHER (R187, R189). -/
def execOpcode3a (rs rt : RegIdx) (imm : Half) (s : State) : Result :=
  otherPath rs rt imm s

/-- Opcode 0x3b, OTHER (R187, R189). -/
def execOpcode3b (rs rt : RegIdx) (imm : Half) (s : State) : Result :=
  otherPath rs rt imm s

/-- Opcode 0x3c, OTHER (R187, R189). -/
def execOpcode3c (rs rt : RegIdx) (imm : Half) (s : State) : Result :=
  otherPath rs rt imm s

/-- Opcode 0x3d, OTHER (R187, R189). -/
def execOpcode3d (rs rt : RegIdx) (imm : Half) (s : State) : Result :=
  otherPath rs rt imm s

/-- Opcode 0x3e, OTHER (R187, R189). -/
def execOpcode3e (rs rt : RegIdx) (imm : Half) (s : State) : Result :=
  otherPath rs rt imm s

/-- Opcode 0x3f, OTHER (R187, R189). -/
def execOpcode3f (rs rt : RegIdx) (imm : Half) (s : State) : Result :=
  otherPath rs rt imm s

end Sys2Proof.Machine
end

