-- ==== Sys2Proof/Machine/Shift.lean ====
section
/-! DEFINITION. The shifts (R152 to R154), guarded (R151). The amount is the field `shamt`, 0 to 31. -/

namespace Sys2Proof.Machine

/-- `sll $rd, $rt, sh` (R152): shift left, and the second PC increment, both inside the guard (D3). -/
def execSll (rs rt rd : RegIdx) (sh : Shamt) (s : State) : Result :=
  rTypePath (exGuarded rd fun t => (t.setAlu (t.opB <<< sh.toNat)).bumpPc) rs rt rd s

/-- `srl $rd, $rt, sh` (R153): logical shift right; does not move the PC. -/
def execSrl (rs rt rd : RegIdx) (sh : Shamt) (s : State) : Result :=
  rTypePath (exGuarded rd fun t => t.setAlu (t.opB >>> sh.toNat)) rs rt rd s

/-- `sra $rd, $rt, sh` (R154): arithmetic shift right; does not move the PC. -/
def execSra (rs rt rd : RegIdx) (sh : Shamt) (s : State) : Result :=
  rTypePath (exGuarded rd fun t => t.setAlu (t.opB.sshiftRight sh.toNat)) rs rt rd s

end Sys2Proof.Machine
end

