-- ==== Sys2Proof/Machine/Store.lean ====
section
/-! DEFINITION. The stores (R209 to R211): every one writes the whole 32-bit word, and WB then writes a held ALUOutput into `x[rt]` (R212). -/

namespace Sys2Proof.Machine

/-- `sb $rt, imm($rs)` (R209): all 32 bits, not narrowed. -/
def execSb (rs rt : RegIdx) (imm : Half) (s : State) : Result :=
  storePath rs rt imm s

/-- `sh $rt, imm($rs)` (R210): all 32 bits, not narrowed. -/
def execSh (rs rt : RegIdx) (imm : Half) (s : State) : Result :=
  storePath rs rt imm s

/-- `sw $rt, imm($rs)` (R211). -/
def execSw (rs rt : RegIdx) (imm : Half) (s : State) : Result :=
  storePath rs rt imm s

end Sys2Proof.Machine
end

