-- ==== Sys2Proof/Machine/System.lean ====
section
/-! DEFINITION. `syscall` (R158): the one halting event (R302). -/

namespace Sys2Proof.Machine

/-- `syscall` (R158): clears `running` when `x[2]` is 10; ALUOutput is held. Only opcode and funct are looked at (R100). -/
def execSyscall (rs rt rd : RegIdx) (_sh : Shamt) (s : State) : Result :=
  rTypePath exSyscall rs rt rd s

end Sys2Proof.Machine
end

