-- ==== Sys2Proof/Machine/Unlisted.lean ====
section
/-! DEFINITION. The 46 unlisted funct codes (R98, R102, R160): each one runs, with an Execute arm that writes nothing
beyond EX/MEM.IR; MEM passes the held ALUOutput and WB writes it into `x[rd]`. -/

namespace Sys2Proof.Machine

/-- Funct 0x01, unlisted (R160). -/
def execFunct01 (rs rt rd : RegIdx) (_sh : Shamt) (s : State) : Result :=
  unlistedPath rs rt rd s

/-- Funct 0x04, unlisted (R160). -/
def execFunct04 (rs rt rd : RegIdx) (_sh : Shamt) (s : State) : Result :=
  unlistedPath rs rt rd s

/-- Funct 0x05, unlisted (R160). -/
def execFunct05 (rs rt rd : RegIdx) (_sh : Shamt) (s : State) : Result :=
  unlistedPath rs rt rd s

/-- Funct 0x06, unlisted (R160). -/
def execFunct06 (rs rt rd : RegIdx) (_sh : Shamt) (s : State) : Result :=
  unlistedPath rs rt rd s

/-- Funct 0x07, unlisted (R160). -/
def execFunct07 (rs rt rd : RegIdx) (_sh : Shamt) (s : State) : Result :=
  unlistedPath rs rt rd s

/-- Funct 0x08, unlisted (R160). -/
def execFunct08 (rs rt rd : RegIdx) (_sh : Shamt) (s : State) : Result :=
  unlistedPath rs rt rd s

/-- Funct 0x09, unlisted (R160). -/
def execFunct09 (rs rt rd : RegIdx) (_sh : Shamt) (s : State) : Result :=
  unlistedPath rs rt rd s

/-- Funct 0x0a, unlisted (R160). -/
def execFunct0a (rs rt rd : RegIdx) (_sh : Shamt) (s : State) : Result :=
  unlistedPath rs rt rd s

/-- Funct 0x0b, unlisted (R160). -/
def execFunct0b (rs rt rd : RegIdx) (_sh : Shamt) (s : State) : Result :=
  unlistedPath rs rt rd s

/-- Funct 0x0d, unlisted (R160). -/
def execFunct0d (rs rt rd : RegIdx) (_sh : Shamt) (s : State) : Result :=
  unlistedPath rs rt rd s

/-- Funct 0x0e, unlisted (R160). -/
def execFunct0e (rs rt rd : RegIdx) (_sh : Shamt) (s : State) : Result :=
  unlistedPath rs rt rd s

/-- Funct 0x0f, unlisted (R160). -/
def execFunct0f (rs rt rd : RegIdx) (_sh : Shamt) (s : State) : Result :=
  unlistedPath rs rt rd s

/-- Funct 0x10, unlisted (R160). -/
def execFunct10 (rs rt rd : RegIdx) (_sh : Shamt) (s : State) : Result :=
  unlistedPath rs rt rd s

/-- Funct 0x11, unlisted (R160). -/
def execFunct11 (rs rt rd : RegIdx) (_sh : Shamt) (s : State) : Result :=
  unlistedPath rs rt rd s

/-- Funct 0x12, unlisted (R160). -/
def execFunct12 (rs rt rd : RegIdx) (_sh : Shamt) (s : State) : Result :=
  unlistedPath rs rt rd s

/-- Funct 0x13, unlisted (R160). -/
def execFunct13 (rs rt rd : RegIdx) (_sh : Shamt) (s : State) : Result :=
  unlistedPath rs rt rd s

/-- Funct 0x14, unlisted (R160). -/
def execFunct14 (rs rt rd : RegIdx) (_sh : Shamt) (s : State) : Result :=
  unlistedPath rs rt rd s

/-- Funct 0x15, unlisted (R160). -/
def execFunct15 (rs rt rd : RegIdx) (_sh : Shamt) (s : State) : Result :=
  unlistedPath rs rt rd s

/-- Funct 0x16, unlisted (R160). -/
def execFunct16 (rs rt rd : RegIdx) (_sh : Shamt) (s : State) : Result :=
  unlistedPath rs rt rd s

/-- Funct 0x17, unlisted (R160). -/
def execFunct17 (rs rt rd : RegIdx) (_sh : Shamt) (s : State) : Result :=
  unlistedPath rs rt rd s

/-- Funct 0x1c, unlisted (R160). -/
def execFunct1c (rs rt rd : RegIdx) (_sh : Shamt) (s : State) : Result :=
  unlistedPath rs rt rd s

/-- Funct 0x1d, unlisted (R160). -/
def execFunct1d (rs rt rd : RegIdx) (_sh : Shamt) (s : State) : Result :=
  unlistedPath rs rt rd s

/-- Funct 0x1e, unlisted (R160). -/
def execFunct1e (rs rt rd : RegIdx) (_sh : Shamt) (s : State) : Result :=
  unlistedPath rs rt rd s

/-- Funct 0x1f, unlisted (R160). -/
def execFunct1f (rs rt rd : RegIdx) (_sh : Shamt) (s : State) : Result :=
  unlistedPath rs rt rd s

/-- Funct 0x28, unlisted (R160). -/
def execFunct28 (rs rt rd : RegIdx) (_sh : Shamt) (s : State) : Result :=
  unlistedPath rs rt rd s

/-- Funct 0x29, unlisted (R160). -/
def execFunct29 (rs rt rd : RegIdx) (_sh : Shamt) (s : State) : Result :=
  unlistedPath rs rt rd s

/-- Funct 0x2c, unlisted (R160). -/
def execFunct2c (rs rt rd : RegIdx) (_sh : Shamt) (s : State) : Result :=
  unlistedPath rs rt rd s

/-- Funct 0x2d, unlisted (R160). -/
def execFunct2d (rs rt rd : RegIdx) (_sh : Shamt) (s : State) : Result :=
  unlistedPath rs rt rd s

/-- Funct 0x2e, unlisted (R160). -/
def execFunct2e (rs rt rd : RegIdx) (_sh : Shamt) (s : State) : Result :=
  unlistedPath rs rt rd s

/-- Funct 0x2f, unlisted (R160). -/
def execFunct2f (rs rt rd : RegIdx) (_sh : Shamt) (s : State) : Result :=
  unlistedPath rs rt rd s

/-- Funct 0x30, unlisted (R160). -/
def execFunct30 (rs rt rd : RegIdx) (_sh : Shamt) (s : State) : Result :=
  unlistedPath rs rt rd s

/-- Funct 0x31, unlisted (R160). -/
def execFunct31 (rs rt rd : RegIdx) (_sh : Shamt) (s : State) : Result :=
  unlistedPath rs rt rd s

/-- Funct 0x32, unlisted (R160). -/
def execFunct32 (rs rt rd : RegIdx) (_sh : Shamt) (s : State) : Result :=
  unlistedPath rs rt rd s

/-- Funct 0x33, unlisted (R160). -/
def execFunct33 (rs rt rd : RegIdx) (_sh : Shamt) (s : State) : Result :=
  unlistedPath rs rt rd s

/-- Funct 0x34, unlisted (R160). -/
def execFunct34 (rs rt rd : RegIdx) (_sh : Shamt) (s : State) : Result :=
  unlistedPath rs rt rd s

/-- Funct 0x35, unlisted (R160). -/
def execFunct35 (rs rt rd : RegIdx) (_sh : Shamt) (s : State) : Result :=
  unlistedPath rs rt rd s

/-- Funct 0x36, unlisted (R160). -/
def execFunct36 (rs rt rd : RegIdx) (_sh : Shamt) (s : State) : Result :=
  unlistedPath rs rt rd s

/-- Funct 0x37, unlisted (R160). -/
def execFunct37 (rs rt rd : RegIdx) (_sh : Shamt) (s : State) : Result :=
  unlistedPath rs rt rd s

/-- Funct 0x38, unlisted (R160). -/
def execFunct38 (rs rt rd : RegIdx) (_sh : Shamt) (s : State) : Result :=
  unlistedPath rs rt rd s

/-- Funct 0x39, unlisted (R160). -/
def execFunct39 (rs rt rd : RegIdx) (_sh : Shamt) (s : State) : Result :=
  unlistedPath rs rt rd s

/-- Funct 0x3a, unlisted (R160). -/
def execFunct3a (rs rt rd : RegIdx) (_sh : Shamt) (s : State) : Result :=
  unlistedPath rs rt rd s

/-- Funct 0x3b, unlisted (R160). -/
def execFunct3b (rs rt rd : RegIdx) (_sh : Shamt) (s : State) : Result :=
  unlistedPath rs rt rd s

/-- Funct 0x3c, unlisted (R160). -/
def execFunct3c (rs rt rd : RegIdx) (_sh : Shamt) (s : State) : Result :=
  unlistedPath rs rt rd s

/-- Funct 0x3d, unlisted (R160). -/
def execFunct3d (rs rt rd : RegIdx) (_sh : Shamt) (s : State) : Result :=
  unlistedPath rs rt rd s

/-- Funct 0x3e, unlisted (R160). -/
def execFunct3e (rs rt rd : RegIdx) (_sh : Shamt) (s : State) : Result :=
  unlistedPath rs rt rd s

/-- Funct 0x3f, unlisted (R160). -/
def execFunct3f (rs rt rd : RegIdx) (_sh : Shamt) (s : State) : Result :=
  unlistedPath rs rt rd s

end Sys2Proof.Machine
end

