-- ==== Sys2Proof/Machine/Dispatch.lean ====
section
/-! DEFINITION. The dispatch: one arm for each row of spec/opcode_table.json, in the table's order. -/

namespace Sys2Proof.Machine

-- What an instruction does in the stage that `s.stage` names: its whole path through ID, EX, MEM and WB.
def exec (i : Instr) (s : State) : Host.Outcome State Fault Refusal :=
  match i with
  | .add rs rt rd sh => Sys2Proof.Machine.execAdd rs rt rd sh s
  | .addu rs rt rd sh => Sys2Proof.Machine.execAddu rs rt rd sh s
  | .sub rs rt rd sh => Sys2Proof.Machine.execSub rs rt rd sh s
  | .subu rs rt rd sh => Sys2Proof.Machine.execSubu rs rt rd sh s
  | .and rs rt rd sh => Sys2Proof.Machine.execAnd rs rt rd sh s
  | .or rs rt rd sh => Sys2Proof.Machine.execOr rs rt rd sh s
  | .xor rs rt rd sh => Sys2Proof.Machine.execXor rs rt rd sh s
  | .nor rs rt rd sh => Sys2Proof.Machine.execNor rs rt rd sh s
  | .slt rs rt rd sh => Sys2Proof.Machine.execSlt rs rt rd sh s
  | .sltu rs rt rd sh => Sys2Proof.Machine.execSltu rs rt rd sh s
  | .sll rs rt rd sh => Sys2Proof.Machine.execSll rs rt rd sh s
  | .srl rs rt rd sh => Sys2Proof.Machine.execSrl rs rt rd sh s
  | .sra rs rt rd sh => Sys2Proof.Machine.execSra rs rt rd sh s
  | .mult rs rt rd sh => Sys2Proof.Machine.execMult rs rt rd sh s
  | .multu rs rt rd sh => Sys2Proof.Machine.execMultu rs rt rd sh s
  | .div rs rt rd sh => Sys2Proof.Machine.execDiv rs rt rd sh s
  | .divu rs rt rd sh => Sys2Proof.Machine.execDivu rs rt rd sh s
  | .syscall rs rt rd sh => Sys2Proof.Machine.execSyscall rs rt rd sh s
  | .funct01 rs rt rd sh => Sys2Proof.Machine.execFunct01 rs rt rd sh s
  | .funct04 rs rt rd sh => Sys2Proof.Machine.execFunct04 rs rt rd sh s
  | .funct05 rs rt rd sh => Sys2Proof.Machine.execFunct05 rs rt rd sh s
  | .funct06 rs rt rd sh => Sys2Proof.Machine.execFunct06 rs rt rd sh s
  | .funct07 rs rt rd sh => Sys2Proof.Machine.execFunct07 rs rt rd sh s
  | .funct08 rs rt rd sh => Sys2Proof.Machine.execFunct08 rs rt rd sh s
  | .funct09 rs rt rd sh => Sys2Proof.Machine.execFunct09 rs rt rd sh s
  | .funct0a rs rt rd sh => Sys2Proof.Machine.execFunct0a rs rt rd sh s
  | .funct0b rs rt rd sh => Sys2Proof.Machine.execFunct0b rs rt rd sh s
  | .funct0d rs rt rd sh => Sys2Proof.Machine.execFunct0d rs rt rd sh s
  | .funct0e rs rt rd sh => Sys2Proof.Machine.execFunct0e rs rt rd sh s
  | .funct0f rs rt rd sh => Sys2Proof.Machine.execFunct0f rs rt rd sh s
  | .funct10 rs rt rd sh => Sys2Proof.Machine.execFunct10 rs rt rd sh s
  | .funct11 rs rt rd sh => Sys2Proof.Machine.execFunct11 rs rt rd sh s
  | .funct12 rs rt rd sh => Sys2Proof.Machine.execFunct12 rs rt rd sh s
  | .funct13 rs rt rd sh => Sys2Proof.Machine.execFunct13 rs rt rd sh s
  | .funct14 rs rt rd sh => Sys2Proof.Machine.execFunct14 rs rt rd sh s
  | .funct15 rs rt rd sh => Sys2Proof.Machine.execFunct15 rs rt rd sh s
  | .funct16 rs rt rd sh => Sys2Proof.Machine.execFunct16 rs rt rd sh s
  | .funct17 rs rt rd sh => Sys2Proof.Machine.execFunct17 rs rt rd sh s
  | .funct1c rs rt rd sh => Sys2Proof.Machine.execFunct1c rs rt rd sh s
  | .funct1d rs rt rd sh => Sys2Proof.Machine.execFunct1d rs rt rd sh s
  | .funct1e rs rt rd sh => Sys2Proof.Machine.execFunct1e rs rt rd sh s
  | .funct1f rs rt rd sh => Sys2Proof.Machine.execFunct1f rs rt rd sh s
  | .funct28 rs rt rd sh => Sys2Proof.Machine.execFunct28 rs rt rd sh s
  | .funct29 rs rt rd sh => Sys2Proof.Machine.execFunct29 rs rt rd sh s
  | .funct2c rs rt rd sh => Sys2Proof.Machine.execFunct2c rs rt rd sh s
  | .funct2d rs rt rd sh => Sys2Proof.Machine.execFunct2d rs rt rd sh s
  | .funct2e rs rt rd sh => Sys2Proof.Machine.execFunct2e rs rt rd sh s
  | .funct2f rs rt rd sh => Sys2Proof.Machine.execFunct2f rs rt rd sh s
  | .funct30 rs rt rd sh => Sys2Proof.Machine.execFunct30 rs rt rd sh s
  | .funct31 rs rt rd sh => Sys2Proof.Machine.execFunct31 rs rt rd sh s
  | .funct32 rs rt rd sh => Sys2Proof.Machine.execFunct32 rs rt rd sh s
  | .funct33 rs rt rd sh => Sys2Proof.Machine.execFunct33 rs rt rd sh s
  | .funct34 rs rt rd sh => Sys2Proof.Machine.execFunct34 rs rt rd sh s
  | .funct35 rs rt rd sh => Sys2Proof.Machine.execFunct35 rs rt rd sh s
  | .funct36 rs rt rd sh => Sys2Proof.Machine.execFunct36 rs rt rd sh s
  | .funct37 rs rt rd sh => Sys2Proof.Machine.execFunct37 rs rt rd sh s
  | .funct38 rs rt rd sh => Sys2Proof.Machine.execFunct38 rs rt rd sh s
  | .funct39 rs rt rd sh => Sys2Proof.Machine.execFunct39 rs rt rd sh s
  | .funct3a rs rt rd sh => Sys2Proof.Machine.execFunct3a rs rt rd sh s
  | .funct3b rs rt rd sh => Sys2Proof.Machine.execFunct3b rs rt rd sh s
  | .funct3c rs rt rd sh => Sys2Proof.Machine.execFunct3c rs rt rd sh s
  | .funct3d rs rt rd sh => Sys2Proof.Machine.execFunct3d rs rt rd sh s
  | .funct3e rs rt rd sh => Sys2Proof.Machine.execFunct3e rs rt rd sh s
  | .funct3f rs rt rd sh => Sys2Proof.Machine.execFunct3f rs rt rd sh s
  | .addi rs rt imm => Sys2Proof.Machine.execAddi rs rt imm s
  | .addiu rs rt imm => Sys2Proof.Machine.execAddiu rs rt imm s
  | .andi rs rt imm => Sys2Proof.Machine.execAndi rs rt imm s
  | .ori rs rt imm => Sys2Proof.Machine.execOri rs rt imm s
  | .xori rs rt imm => Sys2Proof.Machine.execXori rs rt imm s
  | .lui rs rt imm => Sys2Proof.Machine.execLui rs rt imm s
  | .lb rs rt imm => Sys2Proof.Machine.execLb rs rt imm s
  | .lh rs rt imm => Sys2Proof.Machine.execLh rs rt imm s
  | .lw rs rt imm => Sys2Proof.Machine.execLw rs rt imm s
  | .sb rs rt imm => Sys2Proof.Machine.execSb rs rt imm s
  | .sh rs rt imm => Sys2Proof.Machine.execSh rs rt imm s
  | .sw rs rt imm => Sys2Proof.Machine.execSw rs rt imm s
  | .opcode01 rs rt imm => Sys2Proof.Machine.execOpcode01 rs rt imm s
  | .opcode02 rs rt imm => Sys2Proof.Machine.execOpcode02 rs rt imm s
  | .opcode03 rs rt imm => Sys2Proof.Machine.execOpcode03 rs rt imm s
  | .opcode04 rs rt imm => Sys2Proof.Machine.execOpcode04 rs rt imm s
  | .opcode05 rs rt imm => Sys2Proof.Machine.execOpcode05 rs rt imm s
  | .opcode06 rs rt imm => Sys2Proof.Machine.execOpcode06 rs rt imm s
  | .opcode07 rs rt imm => Sys2Proof.Machine.execOpcode07 rs rt imm s
  | .opcode0a rs rt imm => Sys2Proof.Machine.execOpcode0a rs rt imm s
  | .opcode0b rs rt imm => Sys2Proof.Machine.execOpcode0b rs rt imm s
  | .opcode10 rs rt imm => Sys2Proof.Machine.execOpcode10 rs rt imm s
  | .opcode11 rs rt imm => Sys2Proof.Machine.execOpcode11 rs rt imm s
  | .opcode12 rs rt imm => Sys2Proof.Machine.execOpcode12 rs rt imm s
  | .opcode13 rs rt imm => Sys2Proof.Machine.execOpcode13 rs rt imm s
  | .opcode14 rs rt imm => Sys2Proof.Machine.execOpcode14 rs rt imm s
  | .opcode15 rs rt imm => Sys2Proof.Machine.execOpcode15 rs rt imm s
  | .opcode16 rs rt imm => Sys2Proof.Machine.execOpcode16 rs rt imm s
  | .opcode17 rs rt imm => Sys2Proof.Machine.execOpcode17 rs rt imm s
  | .opcode18 rs rt imm => Sys2Proof.Machine.execOpcode18 rs rt imm s
  | .opcode19 rs rt imm => Sys2Proof.Machine.execOpcode19 rs rt imm s
  | .opcode1a rs rt imm => Sys2Proof.Machine.execOpcode1a rs rt imm s
  | .opcode1b rs rt imm => Sys2Proof.Machine.execOpcode1b rs rt imm s
  | .opcode1c rs rt imm => Sys2Proof.Machine.execOpcode1c rs rt imm s
  | .opcode1d rs rt imm => Sys2Proof.Machine.execOpcode1d rs rt imm s
  | .opcode1e rs rt imm => Sys2Proof.Machine.execOpcode1e rs rt imm s
  | .opcode1f rs rt imm => Sys2Proof.Machine.execOpcode1f rs rt imm s
  | .opcode22 rs rt imm => Sys2Proof.Machine.execOpcode22 rs rt imm s
  | .opcode24 rs rt imm => Sys2Proof.Machine.execOpcode24 rs rt imm s
  | .opcode25 rs rt imm => Sys2Proof.Machine.execOpcode25 rs rt imm s
  | .opcode26 rs rt imm => Sys2Proof.Machine.execOpcode26 rs rt imm s
  | .opcode27 rs rt imm => Sys2Proof.Machine.execOpcode27 rs rt imm s
  | .opcode2a rs rt imm => Sys2Proof.Machine.execOpcode2a rs rt imm s
  | .opcode2c rs rt imm => Sys2Proof.Machine.execOpcode2c rs rt imm s
  | .opcode2d rs rt imm => Sys2Proof.Machine.execOpcode2d rs rt imm s
  | .opcode2e rs rt imm => Sys2Proof.Machine.execOpcode2e rs rt imm s
  | .opcode2f rs rt imm => Sys2Proof.Machine.execOpcode2f rs rt imm s
  | .opcode30 rs rt imm => Sys2Proof.Machine.execOpcode30 rs rt imm s
  | .opcode31 rs rt imm => Sys2Proof.Machine.execOpcode31 rs rt imm s
  | .opcode32 rs rt imm => Sys2Proof.Machine.execOpcode32 rs rt imm s
  | .opcode33 rs rt imm => Sys2Proof.Machine.execOpcode33 rs rt imm s
  | .opcode34 rs rt imm => Sys2Proof.Machine.execOpcode34 rs rt imm s
  | .opcode35 rs rt imm => Sys2Proof.Machine.execOpcode35 rs rt imm s
  | .opcode36 rs rt imm => Sys2Proof.Machine.execOpcode36 rs rt imm s
  | .opcode37 rs rt imm => Sys2Proof.Machine.execOpcode37 rs rt imm s
  | .opcode38 rs rt imm => Sys2Proof.Machine.execOpcode38 rs rt imm s
  | .opcode39 rs rt imm => Sys2Proof.Machine.execOpcode39 rs rt imm s
  | .opcode3a rs rt imm => Sys2Proof.Machine.execOpcode3a rs rt imm s
  | .opcode3b rs rt imm => Sys2Proof.Machine.execOpcode3b rs rt imm s
  | .opcode3c rs rt imm => Sys2Proof.Machine.execOpcode3c rs rt imm s
  | .opcode3d rs rt imm => Sys2Proof.Machine.execOpcode3d rs rt imm s
  | .opcode3e rs rt imm => Sys2Proof.Machine.execOpcode3e rs rt imm s
  | .opcode3f rs rt imm => Sys2Proof.Machine.execOpcode3f rs rt imm s

end Sys2Proof.Machine
end

