-- ==== Sys2Proof/Machine/Cycle.lean ====
section
/-! DEFINITION. The cycle (R245): the copy, the five stages in the order WB, MEM, EX, ID, IF, the commit and the counter.
Each of WB, MEM, EX and ID runs the instruction that its input latch holds (R241); IF fetches (R121). -/

namespace Sys2Proof.Machine

/-- The state with the evaluation of a stage under way. -/
def State.atStage (s : State) (g : Stage) : State := { s with stage := g }

/-- `NXT := CUR`, before any stage (R242); WB comes first. -/
def State.beginCycle (s : State) : State := { s with nxt := s.cur, stage := .wb }

/-- WB, on the instruction in MEM/WB (R221). -/
def wbPhase (s : State) : Result := exec (decodeWord s.memwb.ir) (s.atStage .wb)

/-- MEM, on the instruction in EX/MEM (R200). -/
def memPhase (s : State) : Result := exec (decodeWord s.exmem.ir) (s.atStage .mem)

/-- EX, on the instruction in ID/EX (R140). -/
def exPhase (s : State) : Result := exec (decodeWord s.idex.ir) (s.atStage .ex)

/-- ID, on the instruction in IF/ID (R125). -/
def idPhase (s : State) : Result := exec (decodeWord s.ifid.ir) (s.atStage .id)

/-- IF: the word at `NXT.pc`, its address, and the advance of the PC (R121). -/
def ifPhase (s : State) : Result :=
  match read32 s.cfg.regions s.mem s.nxt.pc with
  | some w => .next { s with ifid := ⟨w, s.nxt.pc⟩ }.bumpPc
  | none => s.straddle s.nxt.pc

/-- `CUR := NXT` (R243), then `cycle_count + 1` (R244). The next evaluation is WB's. -/
def State.commit (s : State) : State :=
  { s with cur := s.nxt, cycleCount := s.cycleCount + 1, stage := .wb }

/-- WB, MEM and EX, from the copy on. -/
def cycleThroughEx (s : State) : Result := andThen (andThen (wbPhase s.beginCycle) memPhase) exPhase

/-- One cycle (R245). -/
def cycle (s : State) : Result :=
  andThen (andThen (andThen (cycleThroughEx s) idPhase) ifPhase) fun t => .next t.commit

/-- A clock edge: a cycle, performed only while `running` is true (R246, R255). A halted core does not advance. -/
def clockEdge (s : State) : Result := if s.running then cycle s else .next s

/-- `s` with the word `w` in ID/EX as Decode leaves it (R125, R126), on a core that is running: the next cycle executes
it. IF and ID take a word from memory to ID/EX in two cycles (R335). -/
def State.placeInEx (s : State) (w : Word) : State :=
  { s with
    idex :=
      { ir := w
        a := idxWord (rsField w)
        b := idxWord (rtField w)
        imm := if opcodeField w = 0#6 then s.idex.imm else sext32 (immField w) }
    running := true }

end Sys2Proof.Machine
end

