-- ==== Sys2Proof/Machine/Step.lean ====
section
/-! DEFINITION. One step of the machine: one clock edge (R245, R246, R255). -/

namespace Sys2Proof.Machine

/-- One step: a cycle while `running` is true, and nothing on a halted core (R246, R248). -/
def step (s : State) : Host.Outcome State Fault Refusal := clockEdge s

/-- `s` with the instruction `w` placed so that the very next step runs it: in ID/EX, as IF and ID would have left it.
The core runs an instruction in EX, two cycles after its fetch (R335). -/
def State.withFetchWord (s : State) (nbits w : Nat) : State :=
  s.placeInEx (BitVec.ofNat 32 (w % 2 ^ nbits))

end Sys2Proof.Machine
end

