-- ==== Sys2Proof/Machine/HostPort.lean ====
section
/-! DEFINITION. The host's side of the core (R248 to R256 and R330): the loader, reset, presets, inspection, bounded and
unbounded runs, and the ports. -/

namespace Sys2Proof.Machine

/-- The loader's writes (R250): successive words through `write32` from an address on. The address wraps (R7); a word outside every
region is ignored (D21). `error` is the address of a straddling word. -/
def load (rs : List Region) : Memory → Word → List Word → Except Word Memory
  | m, _, [] => .ok m
  | m, addr, w :: ws =>
    match write32 rs m addr w with
    | some m' => load rs m' (addr + 4) ws
    | none => .error addr

/-- `load(PROGRAM)` (R250): the writes from `TEXT_BASE` on, and the number of words that it returns. -/
def loadProgram (cfg : Config) (m : Memory) (program : List Word) : Except Word Loaded :=
  match load cfg.regions m cfg.textBase program with
  | .ok m' => .ok ⟨m', program.length⟩
  | .error addr => .error addr

/-- `reset()` for the parameters `cfg` (R330), with the program that the host's loader reads, `none` for a file that is
malformed or missing (R312): everything at its value of R36, and the program words at `TEXT_BASE` onward. -/
def State.resetWith (cfg : Config) : Option (List Word) → Result
  | none => .refused .programUnreadable
  | some program =>
    match loadProgram cfg [] program with
    | .ok l => .next { State.blank cfg with mem := l.mem }
    | .error addr => .fault (.straddleAccess addr 0 [])

/-- Reset between two cycles, on a halted core or a running one (R333): the parameters stay, all else is rebuilt. -/
def State.resetAgain (s : State) (program : Option (List Word)) : Result := State.resetWith s.cfg program

/-- The host writes a register between cycles (R252). `NXT` follows, since between cycles it equals `CUR` (R21). -/
def State.presetReg (s : State) (i : RegIdx) (v : Word) : State :=
  { s with cur := s.cur.setReg i v, nxt := s.cur.setReg i v }

/-- The host writes a word of memory between cycles, through `write32` (R252). -/
def State.presetMem (s : State) (addr v : Word) : Result :=
  match write32 s.cfg.regions s.mem addr v with
  | some m => .next { s with mem := m }
  | none => .fault (.straddleAccess addr 0 s.diag)

/-- What the host inspects (R251). -/
def State.inspect (s : State) : Inspection where
  cur := s.cur
  ifid := s.ifid
  idex := s.idex
  exmem := s.exmem
  memwb := s.memwb
  cycleCount := s.cycleCount
  instructionCount := s.instructionCount
  running := s.running
  diag := s.diag

/-- The host's inspection of memory: `read32`, which changes nothing (R251). -/
def State.inspectMem (s : State) (addr : Word) : Option Word := read32 s.cfg.regions s.mem addr

/-- `step(n)`: up to `n` cycles, stopping early when `running` is false before a cycle (R248). -/
def runCycles : Nat → State → Result
  | 0, s => .next s
  | n + 1, s => if s.running then andThen (cycle s) (runCycles n) else .next s

/-- How a run to completion ends (R249, D20). -/
inductive Completion where
  | halted (s : State)
  | outOfFuel (s : State)
  | fault (r : Fault)
  | refused (r : Refusal)
deriving Repr

/-- `run_to_completion()` with a bound on the cycles: it reports when the fuel is exhausted (R249, D20). -/
def runToCompletion : Nat → State → Completion
  | 0, s => if s.running then .outOfFuel s else .halted s
  | n + 1, s =>
    if s.running then
      match cycle s with
      | .next t => runToCompletion n t
      | .fault r => .fault r
      | .refused r => .refused r
    else .halted s

/-! ### Ports (R255) -/

/-- The instruction in EX in the next cycle. -/
def State.inEx (s : State) : Instr := decodeWord s.idex.ir

/-- The instruction in MEM in the next cycle. -/
def State.inMem (s : State) : Instr := decodeWord s.exmem.ir

/-- The instruction in WB in the next cycle. -/
def State.inWb (s : State) : Instr := decodeWord s.memwb.ir

/-- The value WB writes in the next cycle: LMD for LOADS, ALUOutput for every other opcode (R221). -/
def State.wbValue (s : State) : Word := if s.inWb.cls = .load then s.memwb.lmd else s.memwb.aluOutput

/-- `NXT.regs` as EX sees them in the next cycle: `CUR` with the write of WB (R223, R242). -/
def State.afterWb (s : State) : Arch := s.cur.setReg s.inWb.dest s.wbValue

/-- The register EX reads in the next cycle, by the generation that `OPERAND_READ_GEN` names (R140, R223). -/
def State.exReads (s : State) (i : RegIdx) : Word :=
  match s.cfg.operandReadGen with
  | .cur => s.cur.reg i
  | .nxt => s.afterWb.reg i

/-- The address IF fetches from in the next cycle: past one word if a bumping `sll` is in EX (R123). -/
def State.fetchAddr (s : State) : Word := if s.inEx.bumpsPc then s.cur.pc + 4 else s.cur.pc

/-- Memory as the MEM stage of the next cycle leaves it, which is what IF reads (R74). A straddling store leaves none. -/
def State.memAfterStore (s : State) : Option Memory :=
  if s.inMem.cls = .store then write32 s.cfg.regions s.mem s.exmem.aluOutput s.exmem.b else some s.mem

/-- The ports during the cycle that starts from a state (R255). The write enable and the diagnostic pulse are gated
by `running`, as the clock is. `none` is read data that the spec does not define, and `dmem_addr` outside LOADS and
STORES (DEDUCED, log entry 13). Three points are the model's choice. DESIGN CHOICE, log entry 19: in the cycle of a STORE,
`dmem_rdata` is the word as it was before that cycle's write. DESIGN CHOICE, log entry 20: in a cycle that a fault stops,
every port has the value that the state at the start of the cycle gives it, those of EX and IF included when MEM stops
the cycle before them (so `diag_div0` can pulse with no diagnostic recorded, R304). DESIGN CHOICE, log entry 21: on a
halted core the `imem` ports, `dmem_addr`, `dmem_wdata` and `dmem_rdata` have the values that the same state would show
if it were running, the store in EX/MEM included in `imem_rdata`. -/
def State.ports (s : State) : Ports where
  imemAddr := s.fetchAddr
  imemRdata := s.memAfterStore.bind fun m => read32 s.cfg.regions m s.fetchAddr
  dmemAddr := if s.inMem.cls = .load ∨ s.inMem.cls = .store then some s.exmem.aluOutput else none
  dmemWe := s.running && decide (s.inMem.cls = .store)
  dmemWdata := s.exmem.b
  dmemRdata :=
    if s.inMem.cls = .load ∨ s.inMem.cls = .store then read32 s.cfg.regions s.mem s.exmem.aluOutput else none
  running := s.running
  diagDiv0 := s.running && s.inEx.divides && decide (s.exReads (wordIdx s.idex.b) = 0#32)

end Sys2Proof.Machine
end

