-- ==== Sys2Proof/Safety.lean ====
section
/-! DEFINITION. What claims are about: the invariant that holds between cycles, safe runs, and halted states. -/

namespace Sys2Proof.Machine

/-- What holds between cycles of a core that was reset and that the host drives by cycles, presets and resets alone. -/
structure State.Inv (s : State) : Prop where
  /-- The parameters are as R6, R60 and R71 ask. -/
  cfgOk : s.cfg.wellFormed = true
  /-- Memory has its canonical form. -/
  memWf : s.mem.wf = true
  /-- Memory holds bytes of regions only (R60). -/
  memMapped : ∀ c ∈ s.mem, ∃ r ∈ s.cfg.regions, r.beginAddr.toNat ≤ c.1 ∧ c.1 ≤ r.endAddr.toNat
  /-- `NXT` equals `CUR` (R21). -/
  nxtEqCur : s.nxt = s.cur
  /-- The PC is congruent to `TEXT_BASE` modulo 4 (R25). -/
  pcAligned : s.cur.pc.toNat % 4 = s.cfg.textBase.toNat % 4
  /-- HI and LO read 0 (R26). -/
  hiLoZero : s.cur.hi = 0#32 ∧ s.cur.lo = 0#32
  /-- `IDEX.A` is the rs field of `IDEX.IR` (R125). -/
  idexA : s.idex.a = idxWord (rsField s.idex.ir)
  /-- `IDEX.B` is the rt field of `IDEX.IR` (R125). -/
  idexB : s.idex.b = idxWord (rtField s.idex.ir)
  /-- `IDEX.imm` is never stale for a word with a nonzero opcode (R180). -/
  idexImm : opcodeField s.idex.ir ≠ 0#6 → s.idex.imm = sext32 (immField s.idex.ir)
  /-- `EXMEM.A` holds 0 (R35). -/
  exmemA : s.exmem.a = 0#32
  /-- `instruction_count = cycle_count` (R226). -/
  counters : s.instructionCount = s.cycleCount
  /-- The next stage evaluation is WB's (R241): the model's own field. -/
  stageWb : s.stage = .wb

/-- The core has stopped: it performs no cycle until a reset (R246, R247). -/
abbrev State.Halted (s : State) : Prop := s.running = false

/-- `n` requested cycles from `s` end without a fault. -/
def SafeFor (n : Nat) (s : State) : Prop := ∃ t, runCycles n s = .next t

end Sys2Proof.Machine
end

