-- ==== Sys2Proof/Certificates/Slice0/Obligations.lean ====
section
/-! DEFINITION. The statements about the model: what the numbered rules of spec/ say that an instruction, a stage, a cycle and
the host's operations do. Each docstring names the rules. `exec i s` is what `i` does in the stage that `s.stage` names;
`step` is one cycle. -/

namespace Sys2Proof.Statement
open Sys2Proof.Machine

/-- `LOADS` (R13). -/
def loadCodes : List Code := [0x0f#6, 0x20#6, 0x21#6, 0x23#6]

/-- `STORES` (R13). -/
def storeCodes : List Code := [0x28#6, 0x29#6, 0x2b#6]

/-- The 51 opcodes of the class OTHER (R99). -/
def otherCodes : List Code :=
  [0x01#6, 0x02#6, 0x03#6, 0x04#6, 0x05#6, 0x06#6, 0x07#6, 0x0a#6, 0x0b#6, 0x10#6, 0x11#6, 0x12#6, 0x13#6, 0x14#6,
    0x15#6, 0x16#6, 0x17#6, 0x18#6, 0x19#6, 0x1a#6, 0x1b#6, 0x1c#6, 0x1d#6, 0x1e#6, 0x1f#6, 0x22#6] ++
  [0x24#6, 0x25#6, 0x26#6, 0x27#6, 0x2a#6, 0x2c#6, 0x2d#6, 0x2e#6, 0x2f#6, 0x30#6, 0x31#6, 0x32#6, 0x33#6, 0x34#6,
    0x35#6, 0x36#6, 0x37#6, 0x38#6, 0x39#6, 0x3a#6, 0x3b#6, 0x3c#6, 0x3d#6, 0x3e#6, 0x3f#6]

/-- The 18 funct codes that R98 lists. -/
def listedFuncts : List Code :=
  [0x20#6, 0x21#6, 0x22#6, 0x23#6, 0x24#6, 0x25#6, 0x26#6, 0x27#6, 0x2a#6, 0x2b#6, 0x00#6, 0x02#6, 0x03#6, 0x18#6,
    0x19#6, 0x1a#6, 0x1b#6, 0x0c#6]

/-- The word of `i` has opcode 0 and funct `f`. -/
def HasFunct (i : Instr) (f : Code) : Prop := opcodeField (encode i) = 0#6 ∧ functField (encode i) = f

/-- The word of `i` has the opcode `op`. -/
def HasOpcode (i : Instr) (op : Code) : Prop := opcodeField (encode i) = op

/-- `s` after an EX arm that writes EX/MEM.IR and `v` into ALUOutput, and nothing else. -/
def aluWritten (s : State) (v : Word) : State := { s with exmem := ⟨s.idex.ir, s.exmem.a, s.exmem.b, v⟩ }

/-- `s` after an EX arm that writes EX/MEM.IR and nothing else: ALUOutput is held. -/
def aluHeld (s : State) : State := aluWritten s s.exmem.aluOutput

/-- Register `i` of the generation that `OPERAND_READ_GEN` names, in a cycle that goes from `s` to `t`: `CUR` is the
state at the cycle's start, and `NXT`, as EX sees it, has WB's write, which is `CUR` at the cycle's end (R223). -/
def readInCycle (s t : State) (i : RegIdx) : Word :=
  match s.cfg.operandReadGen with
  | .cur => s.cur.reg i
  | .nxt => t.cur.reg i

/-- The register that WB writes for the word `w` (R221). -/
def wbDest (w : Word) : RegIdx := if opcodeField w = 0#6 then rdField w else rtField w

/-- The value that WB writes, for what MEM/WB holds (R221). -/
def wbValue (l : MemWb) : Word := if opcodeField l.ir ∈ loadCodes then l.lmd else l.aluOutput

/-- Register `i` as EX reads it in the cycle that starts from `s`, whether or not that cycle completes: with `NEXT`, WB's
write of the same cycle is in it (R140, R223). -/
def exRegister (s : State) (i : RegIdx) : Word :=
  match s.cfg.operandReadGen with
  | .cur => s.cur.reg i
  | .nxt => if i = wbDest s.memwb.ir then wbValue s.memwb else s.cur.reg i

/-- The address from which IF fetches in the cycle that starts from `s` (R123). -/
def fetchAddress (s : State) : Word :=
  if opcodeField s.idex.ir = 0#6 ∧ functField s.idex.ir = 0x00#6 ∧ rdField s.idex.ir ≠ 0#5 then s.cur.pc + 4
  else s.cur.pc

/-- The word is a `div` or a `divu` (R157, R159). -/
abbrev IsDivision (w : Word) : Prop := opcodeField w = 0#6 ∧ (functField w = 0x1a#6 ∨ functField w = 0x1b#6)

/-- The value that the EX arm of the word `w` writes into ALUOutput, its register operands being those of `x`, for each
value of `ADD_RT_INDIRECT` and `DIV_SIGNED`; `none` where the arm writes nothing (R141 to R160, R181 to R185, R187). -/
def aluResult (cfg : Config) (x : RegIdx → Word) (w : Word) : Option Word :=
  let a := x (rsField w)
  let b := x (rtField w)
  let f := functField w
  let rdSet := rdField w ≠ 0#5
  let sh := (shamtField w).toNat
  let op := opcodeField w
  if op = 0#6 then
    if f = 0x20#6 ∨ f = 0x21#6 then some (a + if cfg.addRtIndirect then x (BitVec.ofNat 5 b.toNat) else b)
    else if f = 0x22#6 ∨ f = 0x23#6 then some (a - b)
    else if f = 0x24#6 then some (a &&& b)
    else if f = 0x25#6 then some (a ||| b)
    else if f = 0x26#6 then some (a ^^^ b)
    else if f = 0x27#6 then some (~~~(a ||| b))
    else if f = 0x2a#6 ∧ rdSet then some (if a.toInt < b.toInt then 1#32 else 0#32)
    else if f = 0x2b#6 ∧ rdSet then some (if a.toNat < b.toNat then 1#32 else 0#32)
    else if f = 0x00#6 ∧ rdSet then some (b <<< sh)
    else if f = 0x02#6 ∧ rdSet then some (b >>> sh)
    else if f = 0x03#6 ∧ rdSet then some (b.sshiftRight sh)
    else if f = 0x18#6 ∨ f = 0x19#6 then some (BitVec.ofNat 32 (a.toNat * b.toNat))
    else if f = 0x1a#6 ∧ cfg.divSigned ∧ b ≠ 0#32 then some (BitVec.ofInt 32 (a.toInt.tdiv b.toInt))
    else if (f = 0x1a#6 ∨ f = 0x1b#6) ∧ b ≠ 0#32 then some (BitVec.ofNat 32 (a.toNat / b.toNat))
    else none
  else if op = 0x0c#6 then some (a &&& (immField w).zeroExtend 32)
  else if op = 0x0d#6 then some (a ||| (immField w).zeroExtend 32)
  else if op = 0x0e#6 then some (a ^^^ (immField w).zeroExtend 32)
  else some (a + (immField w).signExtend 32)

/-- In the cycle that goes from `s` to `t`, EX acts as its word asks on the registers `x`: its result, the captured store
value, the halt of a syscall (which reads `x[2]`) and the diagnostic of a division are those of `x` (R140). -/
def ExActsOn (s t : State) (x : RegIdx → Word) : Prop :=
  let w := s.idex.ir
  t.exmem.aluOutput = (aluResult s.cfg x w).getD s.exmem.aluOutput ∧
  (t.exmem.b = if opcodeField w ∈ loadCodes ++ storeCodes ++ otherCodes then x (rtField w) else s.exmem.b) ∧
  (t.running = false ↔ opcodeField w = 0#6 ∧ functField w = 0x0c#6 ∧ x 2#5 = 0x0000000A#32) ∧
  t.diag = if IsDivision w ∧ x (rtField w) = 0#32 then s.diag ++ [⟨s.cycleCount.toNat + 1, .divByZero⟩] else s.diag

/-- The address of word `k` of a program (R250). -/
def programAddress (cfg : Config) (k : Nat) : Word := cfg.textBase + BitVec.ofNat 32 (4 * k)

end Sys2Proof.Statement

open Sys2Proof Sys2Proof.Machine Sys2Proof.Statement

/-! ### Encoding -/

/-- Words that the spec writes out decode to the instructions it says they are: R125, R142, R160, R182, R189, R205, R208,
R211 and spec/95_test_vectors.md. -/
def Obligations.WordsOfTheSpecDecode : Prop :=
  decodeWord 0x2002000A = .addi 0 2 0x000A ∧ decodeWord 0x00221821 = .addu 1 2 3 0 ∧
  decodeWord 0x03E00008 = .funct08 31 0 0 0 ∧ decodeWord 0x2484FFF8 = .addiu 4 4 0xFFF8 ∧
  decodeWord 0x1022FFFF = .opcode04 1 2 0xFFFF ∧ decodeWord 0x3C081000 = .lui 0 8 0x1000 ∧
  decodeWord 0x8D0A0004 = .lw 8 10 0x0004 ∧ decodeWord 0xAD090004 = .sw 8 9 0x0004 ∧
  decodeWord 0x00021FC2 = .srl 0 2 3 31 ∧ decodeWord 0x0000000C = .syscall 0 0 0 0 ∧
  decodeWord 0x0022281A = .div 1 2 5 0 ∧ decodeWord 0x30238000 = .andi 1 3 0x8000

/-- Decoding the word, the bytes, or the numbered bits of an instruction gives the instruction back, for every instruction
and every value of its fields (R91, R92, R93, R65). -/
def Obligations.DecodeOfEncodeIsTheInstruction : Prop :=
  ∀ i : Instr, decodeWord (encode i) = i ∧ decodeTableWord 32 (encode i).toNat = some i ∧
    ∀ rest : List Byte, decode (encodeBytes i ++ rest) = .ok (i, rest)

/-- Encoding the instruction of a word gives the word back. So no bit is lost and no two words are one instruction, which is
the model's choice: R100 lets fields be ignored, and the model keeps them (log entry 16). -/
def Obligations.EncodeOfDecodeIsTheWord : Prop :=
  (∀ w : Word, encode (decodeWord w) = w) ∧
  ∀ (bs rest : List Byte) (i : Instr), decode bs = .ok (i, rest) → bs = encodeBytes i ++ rest

/-- Bytes are rejected exactly when fewer than the four of one word stand there (R90, R102). -/
def Obligations.DecodeRejectsOnlyTooFewBytes : Prop :=
  ∀ bs : List Byte, (∃ n, decode bs = .error (.truncated n)) ↔ bs.length < 4

/-- The opcode alone selects the class of a word, one of six (R97, R99). -/
def Obligations.OpcodeSelectsTheClass : Prop :=
  ∀ w : Word,
    ((decodeWord w).cls = .rType ↔ opcodeField w = 0x00#6) ∧
    ((decodeWord w).cls = .addImm ↔ opcodeField w ∈ [0x08#6, 0x09#6]) ∧
    ((decodeWord w).cls = .logicImm ↔ opcodeField w ∈ [0x0c#6, 0x0d#6, 0x0e#6]) ∧
    ((decodeWord w).cls = .load ↔ opcodeField w ∈ loadCodes) ∧
    ((decodeWord w).cls = .store ↔ opcodeField w ∈ storeCodes) ∧
    ((decodeWord w).cls = .other ↔ opcodeField w ∈ otherCodes)

/-- The funct code of an opcode-0 word selects the operation, as R98 tabulates it; every other funct code is unlisted. -/
def Obligations.FunctSelectsTheOperation : Prop :=
  ∀ w : Word, opcodeField w = 0#6 →
    let rs := rsField w
    let rt := rtField w
    let rd := rdField w
    let sh := shamtField w
    (functField w = 0x20#6 → decodeWord w = .add rs rt rd sh) ∧
    (functField w = 0x21#6 → decodeWord w = .addu rs rt rd sh) ∧
    (functField w = 0x22#6 → decodeWord w = .sub rs rt rd sh) ∧
    (functField w = 0x23#6 → decodeWord w = .subu rs rt rd sh) ∧
    (functField w = 0x24#6 → decodeWord w = .and rs rt rd sh) ∧
    (functField w = 0x25#6 → decodeWord w = .or rs rt rd sh) ∧
    (functField w = 0x26#6 → decodeWord w = .xor rs rt rd sh) ∧
    (functField w = 0x27#6 → decodeWord w = .nor rs rt rd sh) ∧
    (functField w = 0x2a#6 → decodeWord w = .slt rs rt rd sh) ∧
    (functField w = 0x2b#6 → decodeWord w = .sltu rs rt rd sh) ∧
    (functField w = 0x00#6 → decodeWord w = .sll rs rt rd sh) ∧
    (functField w = 0x02#6 → decodeWord w = .srl rs rt rd sh) ∧
    (functField w = 0x03#6 → decodeWord w = .sra rs rt rd sh) ∧
    (functField w = 0x18#6 → decodeWord w = .mult rs rt rd sh) ∧
    (functField w = 0x19#6 → decodeWord w = .multu rs rt rd sh) ∧
    (functField w = 0x1a#6 → decodeWord w = .div rs rt rd sh) ∧
    (functField w = 0x1b#6 → decodeWord w = .divu rs rt rd sh) ∧
    (functField w = 0x0c#6 → decodeWord w = .syscall rs rt rd sh) ∧
    ((decodeWord w).isUnlisted = true ↔ functField w ∉ listedFuncts)

/-! ### Memory -/

/-- R80: a word written inside a region, at any alignment, is read back, and an unmapped address reads 0 before and after
a write, which changes nothing. -/
def Obligations.WrittenWordIsReadBack : Prop :=
  ∀ (rs : List Region) (m : Memory) (a v : Word), regionsDisjoint rs = true → m.wf = true →
    (∀ r ∈ rs, r.beginAddr.toNat ≤ a.toNat → a.toNat + 3 ≤ r.endAddr.toNat →
      ∃ m', write32 rs m a v = some m' ∧ read32 rs m' a = some v) ∧
    ((∀ r ∈ rs, ¬(r.beginAddr.toNat ≤ a.toNat ∧ a.toNat ≤ r.endAddr.toNat)) →
      read32 rs m a = some 0#32 ∧ write32 rs m a v = some m)

/-- R63, R65: `write32` inside a region puts the four bytes of the word at `addr` to `addr + 3`, the least significant
first, and leaves every other byte as it was. -/
def Obligations.WriteStoresFourLittleEndianBytes : Prop :=
  ∀ (rs : List Region) (m : Memory) (a v : Word) (r : Region), regionsDisjoint rs = true → m.wf = true → r ∈ rs →
    r.beginAddr.toNat ≤ a.toNat → a.toNat + 3 ≤ r.endAddr.toNat →
    ∃ m', write32 rs m a v = some m' ∧
      byteAt m' a.toNat = v.extractLsb' 0 8 ∧ byteAt m' (a.toNat + 1) = v.extractLsb' 8 8 ∧
      byteAt m' (a.toNat + 2) = v.extractLsb' 16 8 ∧ byteAt m' (a.toNat + 3) = v.extractLsb' 24 8 ∧
      ∀ k, k < a.toNat ∨ a.toNat + 3 < k → byteAt m' k = byteAt m k

/-- R66: reads at addresses that differ by 1, 2 or 3 agree on the bytes they share, when all the bytes lie in one
region. -/
def Obligations.OverlappingReadsAgree : Prop :=
  ∀ (rs : List Region) (m : Memory) (a : Word) (r : Region), regionsDisjoint rs = true → r ∈ rs →
    r.beginAddr.toNat ≤ a.toNat →
    (a.toNat + 4 ≤ r.endAddr.toNat → ∃ u v, read32 rs m a = some u ∧ read32 rs m (a + 1) = some v ∧
      v.extractLsb' 0 24 = u.extractLsb' 8 24) ∧
    (a.toNat + 5 ≤ r.endAddr.toNat → ∃ u v, read32 rs m a = some u ∧ read32 rs m (a + 2) = some v ∧
      v.extractLsb' 0 16 = u.extractLsb' 16 16) ∧
    (a.toNat + 6 ≤ r.endAddr.toNat → ∃ u v, read32 rs m a = some u ∧ read32 rs m (a + 3) = some v ∧
      v.extractLsb' 0 8 = u.extractLsb' 24 8)

/-- R64, R213: at one of the last three bytes of a region neither `read32` nor `write32` has a value, and a load in MEM,
a store in MEM and the fetch stop with `fault StraddleAccess` at that address. What the fault carries besides is the
model's choice (log entries 7 and 8). -/
def Obligations.StraddlingAccessFaults : Prop :=
  ∀ (s : State) (a : Word) (r : Region), regionsDisjoint s.cfg.regions = true → r ∈ s.cfg.regions →
    r.beginAddr.toNat ≤ a.toNat → a.toNat ≤ r.endAddr.toNat → r.endAddr.toNat < a.toNat + 3 →
    (∀ m, read32 s.cfg.regions m a = none) ∧ (∀ m v, write32 s.cfg.regions m a v = none) ∧
    (∀ i : Instr, i.cls = .load ∨ i.cls = .store → s.stage = .mem → s.exmem.aluOutput = a →
      exec i s = .fault (.straddleAccess a (s.cycleCount.toNat + 1) s.diag)) ∧
    (s.nxt.pc = a → ifPhase s = .fault (.straddleAccess a (s.cycleCount.toNat + 1) s.diag))

/-! ### Reset and the host -/

/-- R36, R330: what reset leaves, for every configuration and program, and that `State.reset` is reset with the reference
configuration (D11) and the empty program, which is the model's choice (log entries 3 and 4). -/
def Obligations.ResetLeavesTheTabledValues : Prop :=
  State.resetWith Config.reference (some []) = .next State.reset ∧
  ∀ (cfg : Config) (p : Option (List Word)) (s : State), State.resetWith cfg p = .next s →
    s.cfg = cfg ∧ (∀ i, s.cur.reg i = 0#32) ∧ s.cur.pc = cfg.textBase ∧ s.cur.hi = 0#32 ∧ s.cur.lo = 0#32 ∧ s.nxt = s.cur ∧
    s.ifid = ⟨0, 0⟩ ∧ s.idex = ⟨0, 0, 0, 0⟩ ∧ s.exmem = ⟨0, 0, 0, 0⟩ ∧ s.memwb = ⟨0, 0, 0⟩ ∧
    s.cycleCount = 0#32 ∧ s.instructionCount = 0#32 ∧ s.running = true ∧ s.diag = [] ∧
    (p = some [] → ∀ k, byteAt s.mem k = 0#8)

/-- R250, R330, R331: reset with a program that fits into the text region succeeds; word `k` of the program is read at
`TEXT_BASE + 4k`, and every byte outside the program is 0. -/
def Obligations.ResetLoadsTheProgram : Prop :=
  ∀ (cfg : Config) (r : Region) (program : List Word), cfg.wellFormed = true → r ∈ cfg.regions →
    r.beginAddr = cfg.textBase → cfg.textBase.toNat + 4 * program.length ≤ r.endAddr.toNat + 1 →
    ∃ s, State.resetWith cfg (some program) = .next s ∧
      (∀ k w, program[k]? = some w →
        read32 cfg.regions s.mem (cfg.textBase + BitVec.ofNat 32 (4 * k)) = some w) ∧
      ∀ a, a < cfg.textBase.toNat ∨ cfg.textBase.toNat + 4 * program.length ≤ a → byteAt s.mem a = 0#8

/-- R312: a program that cannot be read, which the model writes as `none` (log entry 11), builds no state; R333: reset
between cycles depends on nothing of the old state but the parameters. -/
def Obligations.ResetForgetsTheOldState : Prop :=
  (∀ cfg : Config, State.resetWith cfg none = .refused .programUnreadable) ∧
  ∀ (s t : State) (p : Option (List Word)), s.cfg = t.cfg → s.resetAgain p = t.resetAgain p

/-- R251, R252: a register preset sets that register and no other, a memory preset is `write32`, and neither touches the
PC, HI, LO, the latches, the counters, `running` or the diagnostics, as the host's inspection shows. -/
def Obligations.PresetsWriteOneRegisterOrWord : Prop :=
  ∀ (s : State) (i : RegIdx) (v : Word),
    ((s.presetReg i v).inspect = { s.inspect with cur := s.cur.setReg i v } ∧ (s.presetReg i v).mem = s.mem ∧
      ∀ j, (s.presetReg i v).cur.reg j = if j = i then v else s.cur.reg j) ∧
    ∀ (a : Word) (t : State), s.presetMem a v = .next t →
      write32 s.cfg.regions s.mem a v = some t.mem ∧ t.inspect = s.inspect

/-! ### The cycle -/

/-- R241, R245: a step of a running core runs, on what the latches hold at the start of the cycle, the instruction of
MEM/WB in WB, that of EX/MEM in MEM, that of ID/EX in EX and that of IF/ID in ID, in this order, each as `exec`; then
it fetches and commits. -/
def Obligations.StepRunsTheLatchedInstructions : Prop :=
  ∀ (s : State) (iWb iMem iEx iId : Instr), s.running = true →
    decodeWord s.memwb.ir = iWb → decodeWord s.exmem.ir = iMem → decodeWord s.idex.ir = iEx →
    decodeWord s.ifid.ir = iId →
    step s =
      andThen (exec iWb { s with nxt := s.cur, stage := .wb }) fun s1 =>
      andThen (exec iMem { s1 with stage := .mem }) fun s2 =>
      andThen (exec iEx { s2 with stage := .ex }) fun s3 =>
      andThen (exec iId { s3 with stage := .id }) fun s4 =>
      andThen (ifPhase s4) fun s5 =>
        .next { s5 with cur := s5.nxt, cycleCount := s5.cycleCount + 1, stage := .wb }

/-- R246, R248: a halted core performs no cycle, however many are asked for. That a step of a halted core answers the same
state is the model's choice (log entry 1). -/
def Obligations.HaltedCoreDoesNotStep : Prop :=
  ∀ (s : State) (n : Nat), s.running = false → step s = .next s ∧ runCycles n s = .next s

/-- With the parameters at their defaults (D4, D6), a cycle completes exactly when neither the access of the load or store
in MEM nor the fetch straddles a region's end (R64, R213, R300). -/
def Obligations.CycleCompletesUnlessAnAccessStraddles : Prop :=
  ∀ s : State, s.running = true → s.cfg.addRtIndirect = false → s.cfg.divSigned = false →
    ((∃ t, step s = .next t) ↔
      ¬(opcodeField s.exmem.ir ∈ loadCodes ++ storeCodes ∧
          accessAt s.cfg.regions s.exmem.aluOutput = .straddles) ∧
      accessAt s.cfg.regions
        (if opcodeField s.idex.ir = 0#6 ∧ functField s.idex.ir = 0x00#6 ∧ rdField s.idex.ir ≠ 0#5
          then s.cur.pc + 4 else s.cur.pc) ≠ .straddles)

/-- R102, R240, R300, R304: no step is refused, whatever the latches hold, and a halted core's step is no fault. A step of a
running core stops with the first fault in stage order, and with none of them it answers a next state: the access of MEM
straddles; `add` or `addu` in EX, with `ADD_RT_INDIRECT`, has an index of 32 or more; `div` in EX, with `DIV_SIGNED`,
divides 0x80000000 by -1; the fetch straddles. A fault of IF has the diagnostic that EX emitted in the same cycle. That a
fault carries the cycle number and the diagnostics is the model's choice (log entries 7 and 8). -/
def Obligations.StepsStopOnlyWithTheNamedFaults : Prop :=
  ∀ s : State, (∀ r, step s ≠ .refused r) ∧ (s.running = false → ∀ f, step s ≠ .fault f) ∧
    (s.running = true →
      let w := s.idex.ir
      let a := exRegister s (wordIdx s.idex.a)
      let b := exRegister s (wordIdx s.idex.b)
      let n := s.cycleCount.toNat + 1
      if opcodeField s.exmem.ir ∈ loadCodes ++ storeCodes ∧
          accessAt s.cfg.regions s.exmem.aluOutput = .straddles then
        step s = .fault (.straddleAccess s.exmem.aluOutput n s.diag)
      else if opcodeField w = 0#6 ∧ (functField w = 0x20#6 ∨ functField w = 0x21#6) ∧
          s.cfg.addRtIndirect = true ∧ 32 ≤ b.toNat then
        step s = .fault (.indirectIndex n s.diag)
      else if opcodeField w = 0#6 ∧ functField w = 0x1a#6 ∧ s.cfg.divSigned = true ∧
          a = 0x80000000#32 ∧ b = 0xFFFFFFFF#32 then
        step s = .fault (.divOverflow n s.diag)
      else if accessAt s.cfg.regions (fetchAddress s) = .straddles then
        step s = .fault (.straddleAccess (fetchAddress s) n
          (if IsDivision w ∧ b = 0#32 then s.diag ++ [⟨n, .divByZero⟩] else s.diag))
      else ∃ t, step s = .next t)

/-- R123 with R121: the address IF fetches from is `CUR.pc + 4` if an `sll` with `rd != 0` is in EX in that cycle and
`CUR.pc` otherwise; IF/ID gets the word there and the address, and the PC goes past it. -/
def Obligations.FetchGoesPastABumpingSll : Prop :=
  ∀ s t : State, s.running = true → step s = .next t →
    let a := if opcodeField s.idex.ir = 0#6 ∧ functField s.idex.ir = 0x00#6 ∧ rdField s.idex.ir ≠ 0#5
      then s.cur.pc + 4 else s.cur.pc
    t.ifid.pc = a ∧ read32 s.cfg.regions t.mem a = some t.ifid.ir ∧ t.cur.pc = a + 4

/-- R125, R126: ID copies the word on and extracts the two register indices whatever the opcode; the immediate is written,
sign-extended, when the opcode is nonzero and held when it is 0. -/
def Obligations.DecodeFillsIdEx : Prop :=
  ∀ s t : State, s.running = true → step s = .next t →
    t.idex.ir = s.ifid.ir ∧ t.idex.a = (s.ifid.ir.extractLsb' 21 5).zeroExtend 32 ∧
    t.idex.b = (s.ifid.ir.extractLsb' 16 5).zeroExtend 32 ∧
    t.idex.imm = if opcodeField s.ifid.ir = 0#6 then s.idex.imm else (s.ifid.ir.extractLsb' 0 16).signExtend 32

/-- R200 to R203: what MEM leaves in MEM/WB and in memory, by the opcode of the word in EX/MEM. -/
def Obligations.MemoryStageDispatch : Prop :=
  ∀ s t : State, s.running = true → step s = .next t →
    t.memwb.ir = s.exmem.ir ∧
    (opcodeField s.exmem.ir ∈ loadCodes →
      read32 s.cfg.regions s.mem s.exmem.aluOutput = some t.memwb.lmd ∧
      t.memwb.aluOutput = s.memwb.aluOutput ∧ t.mem = s.mem) ∧
    (opcodeField s.exmem.ir ∈ storeCodes →
      write32 s.cfg.regions s.mem s.exmem.aluOutput s.exmem.b = some t.mem ∧
      t.memwb.aluOutput = s.memwb.aluOutput ∧ t.memwb.lmd = s.memwb.lmd) ∧
    (opcodeField s.exmem.ir ∉ loadCodes ++ storeCodes →
      t.memwb.aluOutput = s.exmem.aluOutput ∧ t.memwb.lmd = s.memwb.lmd ∧ t.mem = s.mem)

/-- R202, R204: a cycle changes no byte of memory but the four from `EXMEM.ALUOutput` on, and those only when a STORE is
in MEM. -/
def Obligations.OnlyAStoreChangesMemory : Prop :=
  ∀ s t : State, s.running = true → s.mem.wf = true → step s = .next t →
    (opcodeField s.exmem.ir ∉ storeCodes → t.mem = s.mem) ∧
    ∀ k, k < s.exmem.aluOutput.toNat ∨ s.exmem.aluOutput.toNat + 3 < k → byteAt t.mem k = byteAt s.mem k

/-- R221: WB writes one register, selected with its value by the word in MEM/WB, and increments the instruction count;
every other register is as before (R24, R220). -/
def Obligations.WritebackWritesTheSelectedRegister : Prop :=
  ∀ s t : State, s.running = true → step s = .next t →
    let w := s.memwb.ir
    let dest := if opcodeField w = 0#6 then w.extractLsb' 11 5 else w.extractLsb' 16 5
    let value := if opcodeField w ∈ loadCodes then s.memwb.lmd else s.memwb.aluOutput
    (∀ i, t.cur.reg i = if i = dest then value else s.cur.reg i) ∧ t.instructionCount = s.instructionCount + 1

/-- R26, R35, R60: no step writes HI, LO, EX/MEM.A or the parameters. -/
def Obligations.HiLoAndExMemAAreNeverWritten : Prop :=
  ∀ s t : State, step s = .next t →
    t.cur.hi = s.cur.hi ∧ t.cur.lo = s.cur.lo ∧ t.exmem.a = s.exmem.a ∧ t.cfg = s.cfg

/-- R140, R187: EX copies the word on, and EX/MEM.B changes only by the catch-all arm, which captures `x[rt]`. -/
def Obligations.StoreValueIsCapturedByTheCatchAllArm : Prop :=
  ∀ s t : State, s.running = true → step s = .next t →
    t.exmem.ir = s.idex.ir ∧
    t.exmem.b = if opcodeField s.idex.ir ∈ loadCodes ++ storeCodes ++ otherCodes
      then readInCycle s t (wordIdx s.idex.b) else s.exmem.b

/-- R29, R158, R302: a step clears `running` exactly when a syscall is in EX and `x[2]` is 10. -/
def Obligations.OnlyAHaltingSyscallStopsTheCore : Prop :=
  ∀ s t : State, s.running = true → step s = .next t →
    (t.running = false ↔
      opcodeField s.idex.ir = 0#6 ∧ functField s.idex.ir = 0x0c#6 ∧ readInCycle s t 2#5 = 0x0000000A#32)

/-- R256, R301: the diagnostic output grows by one event, with the number of the cycle, exactly when a `div` or `divu` in
EX has the divisor 0. The number is `cycle_count + 1`, which is the model's (log entry 7). -/
def Obligations.DivisionByZeroEmitsOneDiagnostic : Prop :=
  ∀ s t : State, s.running = true → step s = .next t →
    t.diag =
      if opcodeField s.idex.ir = 0#6 ∧ (functField s.idex.ir = 0x1a#6 ∨ functField s.idex.ir = 0x1b#6) ∧
          readInCycle s t (wordIdx s.idex.b) = 0#32
      then s.diag ++ [⟨s.cycleCount.toNat + 1, .divByZero⟩] else s.diag

/-- R226: reset zeroes both counters, every cycle advances each by 1, so between cycles they are equal, always. -/
def Obligations.CountersAdvanceTogether : Prop :=
  (∀ (cfg : Config) (p : Option (List Word)) (s : State), State.resetWith cfg p = .next s → s.instructionCount = 0#32 ∧ s.cycleCount = 0#32) ∧
  (∀ s t : State, s.running = true → step s = .next t →
    t.instructionCount = s.instructionCount + 1 ∧ t.cycleCount = s.cycleCount + 1) ∧
  ∀ (cfg : Config) (p : Option (List Word)) (s : State) (n : Nat) (t : State), State.resetWith cfg p = .next s → runCycles n s = .next t → t.instructionCount = t.cycleCount

/-- R140, R223, R9: EX reads all its register operands from the generation that `OPERAND_READ_GEN` names: with `CUR` it acts
on the registers as the cycle found them, with `NEXT` on those with the write of the same cycle's WB. This is so of every
word (rs, rt, the store value, the index of `ADD_RT_INDIRECT`, and `x[2]` of a syscall) and every value of the
parameters, in states with the invariant. The cycle number of a diagnostic is the model's (log entry 7). -/
def Obligations.OperandsComeFromTheNamedGeneration : Prop :=
  ∀ s t : State, s.Inv → s.running = true → step s = .next t →
    (s.cfg.operandReadGen = .cur → ExActsOn s t s.cur.reg) ∧
    (s.cfg.operandReadGen = .nxt → ExActsOn s t t.cur.reg)

/-! ### Runs -/

/-- R253: `step(n)` followed by `step(m)` is `step(n + m)`, on the whole state. -/
def Obligations.BoundedRunsCompose : Prop :=
  ∀ (n m : Nat) (s : State), runCycles (n + m) s = andThen (runCycles n s) (runCycles m)

/-- R246, R247: the cycle in which `running` is cleared completes and is counted, and after it nothing changes, however
many cycles are asked for. -/
def Obligations.HaltLastsUntilReset : Prop :=
  ∀ s t : State, s.running = true → step s = .next t → t.running = false →
    t.cycleCount = s.cycleCount + 1 ∧ t.instructionCount = s.instructionCount + 1 ∧ t.idex.ir = s.ifid.ir ∧
    ∀ n, runCycles (n + 1) s = .next t ∧ runCycles n t = .next t ∧ runToCompletion n t = .halted t

/-- R249, D20: a run to completion with a fuel bound is a bounded run: it reports a halted state that some number of
cycles within the bound reaches, or that the fuel is exhausted on a core still running.
How exhaustion is reported is the model's choice (log entry 14). -/
def Obligations.RunToCompletionIsABoundedRun : Prop :=
  ∀ (fuel : Nat) (s t : State),
    (runToCompletion fuel s = .halted t ↔ runCycles fuel s = .next t ∧ t.running = false) ∧
    (runToCompletion fuel s = .outOfFuel t ↔ runCycles fuel s = .next t ∧ t.running = true)

/-- The invariant of Safety.lean (R21, R25, R26, R35, R60, R125, R180, R226; its clauses on the form of memory and on
`stage` are the model's, log entries 2 and 5) is kept by every step from every state that has it. -/
def Obligations.EveryStepKeepsTheInvariant : Prop :=
  ∀ s t : State, s.Inv → step s = .next t → t.Inv

/-- The state after reset has the invariant; that `State.reset` has the reference configuration and the empty program is the
model's choice (log entries 3 and 4). -/
def Obligations.ResetStateHasTheInvariant : Prop := State.reset.Inv

/-- Reset with well-formed parameters and any program, a register preset and a memory preset all leave the invariant
(R252, R330; a register preset writes both generations, log entry 12). -/
def Obligations.HostOperationsKeepTheInvariant : Prop :=
  (∀ (cfg : Config) (p : Option (List Word)) (s : State), cfg.wellFormed = true → State.resetWith cfg p = .next s → s.Inv) ∧
  (∀ (s : State) (i : RegIdx) (v : Word), s.Inv → (s.presetReg i v).Inv) ∧
  ∀ (s : State) (a v : Word) (t : State), s.Inv → s.presetMem a v = .next t → t.Inv

/-- R255: the ports tell what the cycle does: the fetch address and word, the data access of MEM and the diagnostic
pulse; a halted core writes nothing and pulses nothing. That the write enable and the pulse are gated by `running` is the
model's reading (log entry 13). -/
def Obligations.PortsShowTheCycle : Prop :=
  (∀ s t : State, s.running = true → step s = .next t →
    s.ports.imemAddr = t.ifid.pc ∧ s.ports.imemRdata = some t.ifid.ir ∧
    (s.ports.dmemWe = true ↔ opcodeField s.exmem.ir ∈ storeCodes) ∧
    (opcodeField s.exmem.ir ∈ loadCodes →
      s.ports.dmemAddr = some s.exmem.aluOutput ∧ s.ports.dmemRdata = some t.memwb.lmd) ∧
    (opcodeField s.exmem.ir ∈ storeCodes →
      s.ports.dmemAddr = some s.exmem.aluOutput ∧ s.ports.dmemWdata = s.exmem.b) ∧
    (s.ports.diagDiv0 = true ↔ t.diag ≠ s.diag) ∧ s.ports.running = true) ∧
  ∀ s : State, s.running = false →
    s.ports.dmemWe = false ∧ s.ports.diagDiv0 = false ∧ s.ports.running = false

/-! ### Instructions through the pipeline -/

/-- R335, R224, R352: a word that is neither a LOAD nor a STORE, in IF/ID at `s0`, goes through ID, EX, MEM and WB in the
next four cycles; then its destination register holds the result of its EX arm (R141 to R160, R181 to R185, R187) on the
registers EX read in the second of them, or, where the arm writes nothing, the ALUOutput that EX/MEM held before it.
For every value of the parameters. -/
def Obligations.ResultReachesItsRegisterInFourCycles : Prop :=
  ∀ s0 s1 s2 s3 s4 : State,
    s0.running = true → s1.running = true → s2.running = true → s3.running = true →
    step s0 = .next s1 → step s1 = .next s2 → step s2 = .next s3 → step s3 = .next s4 →
    let w := s0.ifid.ir
    opcodeField w ∉ loadCodes ++ storeCodes →
    s4.cur.reg (wbDest w) = (aluResult s0.cfg (readInCycle s1 s2) w).getD s1.exmem.aluOutput

/-- R205 to R208, R346: a LOAD in IF/ID at `s0` reads, in the third of its four cycles, the whole word at
`x[rs] + sext_32(imm16)`, and after the fourth `rt` holds it. -/
def Obligations.LoadedWordReachesItsRegister : Prop :=
  ∀ s0 s1 s2 s3 s4 : State,
    s0.running = true → s1.running = true → s2.running = true → s3.running = true →
    step s0 = .next s1 → step s1 = .next s2 → step s2 = .next s3 → step s3 = .next s4 →
    let w := s0.ifid.ir
    opcodeField w ∈ loadCodes →
    read32 s0.cfg.regions s2.mem (readInCycle s1 s2 (rsField w) + (immField w).signExtend 32) =
      some (s4.cur.reg (rtField w))

/-- R209 to R212, R204: a STORE in IF/ID at `s0` writes, in the third of its four cycles, the whole of `x[rt]` as EX read
it, and after the fourth `rt` holds the ALUOutput that MEM/WB held before it. -/
def Obligations.StoreReachesMemoryAndOverwritesItsRegister : Prop :=
  ∀ s0 s1 s2 s3 s4 : State,
    s0.running = true → s1.running = true → s2.running = true → s3.running = true →
    step s0 = .next s1 → step s1 = .next s2 → step s2 = .next s3 → step s3 = .next s4 →
    let w := s0.ifid.ir
    opcodeField w ∈ storeCodes →
    write32 s0.cfg.regions s2.mem (readInCycle s1 s2 (rsField w) + (immField w).signExtend 32)
      (readInCycle s1 s2 (rtField w)) = some s3.mem ∧
    s4.cur.reg (rtField w) = s2.memwb.aluOutput

/-- R345, R346, R347: let the producer be in MEM in the cycle `s` to `t` and in WB in the cycle `t` to `u`, and write
`value` into `r`. A consumer is whatever word is in EX, and all its register operands are meant (rs, rt, the store value,
`x[2]` of a syscall). One fetched 1 cycle after the producer is in EX from `s` to `t`, and 2 cycles after it from `t` to
`u`: with `CUR` these act on the registers as they were before the write; with `NEXT` the second acts on the registers
with the write, and the first on registers without it. One fetched `3 + n` cycles after it is in EX from `y` to `z`: it
acts on registers in which `r` is `value`, with either generation, unless another word wrote `r` in between. The cycle
number of a diagnostic is the model's (log entry 7). -/
def Obligations.ReadAfterWriteDistance : Prop :=
  ∀ s t u : State, s.Inv → s.running = true → t.running = true → step s = .next t → step t = .next u →
    let r := wbDest s.exmem.ir
    let value := wbValue t.memwb
    wbDest t.memwb.ir = r ∧ u.cur.reg r = value ∧
    (wbDest s.memwb.ir ≠ r → t.cur.reg r = s.cur.reg r) ∧
    (s.cfg.operandReadGen = .cur → ExActsOn s t s.cur.reg ∧ ExActsOn t u t.cur.reg) ∧
    (s.cfg.operandReadGen = .nxt → ExActsOn s t t.cur.reg ∧ ExActsOn t u u.cur.reg) ∧
    ∀ (n : Nat) (y z : State), runCycles n u = .next y → y.running = true → step y = .next z →
      (∀ m q, m < n → runCycles m u = .next q → wbDest q.memwb.ir ≠ r) →
      y.cur.reg r = value ∧
      (s.cfg.operandReadGen = .cur → ExActsOn y z y.cur.reg) ∧
      (s.cfg.operandReadGen = .nxt →
        ExActsOn y z z.cur.reg ∧ (wbDest y.memwb.ir ≠ r → z.cur.reg r = value))

/-! ### The instructions, stage by stage

The stage that `exec` evaluates is named by `stage`, the model's own field (log entry 2). Each statement says that `exec`
answers a next state and says that whole state, so that everything it does not name is as before:
every register, HI, LO, the PC, every latch field, all of memory, the counters, `running` and the diagnostics. -/

/-- ID of all 127 instructions (R125, R126): an opcode-0 word holds the immediate, every other word writes it
sign-extended. -/
def Obligations.DecodeStageOfEveryInstruction : Prop :=
  ∀ (i : Instr) (s : State), s.stage = .id →
    exec i s = .next { s with
      idex := {
        ir := s.ifid.ir
        a := (rsField (encode i)).zeroExtend 32
        b := (rtField (encode i)).zeroExtend 32
        imm := if opcodeField (encode i) = 0#6 then s.idex.imm else (immField (encode i)).signExtend 32 } }

/-- MEM of the 120 instructions that are neither loads nor stores (R203): ALUOutput is passed on. -/
def Obligations.MemoryStagePassesTheResult : Prop :=
  ∀ (i : Instr) (s : State), i.cls ≠ .load → i.cls ≠ .store → s.stage = .mem →
    exec i s = .next { s with memwb := ⟨s.exmem.ir, s.exmem.aluOutput, s.memwb.lmd⟩ }

/-- MEM of `lui`, `lb`, `lh` and `lw` (R201, R205 to R208, R213): the whole word at the effective address into LMD, at any
alignment; an unmapped address loads 0. -/
def Obligations.MemoryStageOfTheLoads : Prop :=
  ∀ (rs rt : RegIdx) (imm : Half) (s : State), s.stage = .mem →
    ∀ i ∈ [Instr.lui rs rt imm, .lb rs rt imm, .lh rs rt imm, .lw rs rt imm],
      (accessAt s.cfg.regions s.exmem.aluOutput = .inside →
        exec i s = .next { s with
          memwb := ⟨s.exmem.ir, s.memwb.aluOutput, wordAt s.mem s.exmem.aluOutput.toNat⟩ }) ∧
      (accessAt s.cfg.regions s.exmem.aluOutput = .unmapped →
        exec i s = .next { s with memwb := ⟨s.exmem.ir, s.memwb.aluOutput, 0#32⟩ })

/-- MEM of `sb`, `sh` and `sw` (R202, R209 to R211, R213): the whole of EX/MEM.B at the effective address; every byte
outside the four is as before, and an unmapped address changes nothing. -/
def Obligations.MemoryStageOfTheStores : Prop :=
  ∀ (rs rt : RegIdx) (imm : Half) (s : State), s.stage = .mem → s.mem.wf = true →
    ∀ i ∈ [Instr.sb rs rt imm, .sh rs rt imm, .sw rs rt imm],
      (accessAt s.cfg.regions s.exmem.aluOutput = .inside →
        ∃ m, exec i s = .next { s with
            memwb := ⟨s.exmem.ir, s.memwb.aluOutput, s.memwb.lmd⟩, mem := m } ∧
          wordAt m s.exmem.aluOutput.toNat = s.exmem.b ∧
          ∀ k, k < s.exmem.aluOutput.toNat ∨ s.exmem.aluOutput.toNat + 3 < k → byteAt m k = byteAt s.mem k) ∧
      (accessAt s.cfg.regions s.exmem.aluOutput = .unmapped →
        exec i s = .next { s with memwb := ⟨s.exmem.ir, s.memwb.aluOutput, s.memwb.lmd⟩ })

/-- WB of all 127 instructions (R221, R222, R225): `rd` of an opcode-0 word gets ALUOutput, `rt` of a load LMD, `rt` of
every other word ALUOutput, register 0 written like every other; the instruction count advances. -/
def Obligations.WritebackStageOfEveryInstruction : Prop :=
  ∀ (i : Instr) (s : State), s.stage = .wb →
    exec i s = .next { s with
      nxt := s.nxt.setReg (if opcodeField (encode i) = 0#6 then rdField (encode i) else rtField (encode i))
        (if i.cls = .load then s.memwb.lmd else s.memwb.aluOutput)
      instructionCount := s.instructionCount + 1 }

/-- EX of `add` and `addu` (R141, R142): the sum modulo 2^32 whatever `rd` is; with `ADD_RT_INDIRECT`, the second operand is
`x[x[rt]]`, and an index of 32 or more is `fault IndirectIndex`. What the fault carries is the model's choice (log entries 7
and 8). -/
def Obligations.AddWritesTheSum : Prop :=
  ∀ (rs rt rd : RegIdx) (sh : Shamt) (s : State), s.stage = .ex →
    HasFunct (.add rs rt rd sh) 0x20#6 ∧ HasFunct (.addu rs rt rd sh) 0x21#6 ∧
    ∀ i ∈ [Instr.add rs rt rd sh, .addu rs rt rd sh],
      (s.cfg.addRtIndirect = false → exec i s = .next (aluWritten s (s.opA + s.opB))) ∧
      (s.cfg.addRtIndirect = true → s.opB.toNat < 32 →
        exec i s = .next (aluWritten s (s.opA + s.x (BitVec.ofNat 5 s.opB.toNat)))) ∧
      (s.cfg.addRtIndirect = true → 32 ≤ s.opB.toNat →
        exec i s = .fault (.indirectIndex (s.cycleCount.toNat + 1) s.diag))

/-- EX of `sub` and `subu` (R143, R144): the difference modulo 2^32 whatever `rd` is. -/
def Obligations.SubtractWritesTheDifference : Prop :=
  ∀ (rs rt rd : RegIdx) (sh : Shamt) (s : State), s.stage = .ex →
    HasFunct (.sub rs rt rd sh) 0x22#6 ∧ HasFunct (.subu rs rt rd sh) 0x23#6 ∧
    exec (.sub rs rt rd sh) s = .next (aluWritten s (s.opA - s.opB)) ∧
    exec (.subu rs rt rd sh) s = .next (aluWritten s (s.opA - s.opB))

/-- EX of `and`, `or`, `xor` and `nor` (R145 to R148): the bitwise result whatever `rd` is. -/
def Obligations.LogicalOperationsWriteTheBitwiseResult : Prop :=
  ∀ (rs rt rd : RegIdx) (sh : Shamt) (s : State), s.stage = .ex →
    HasFunct (.and rs rt rd sh) 0x24#6 ∧ HasFunct (.or rs rt rd sh) 0x25#6 ∧
    HasFunct (.xor rs rt rd sh) 0x26#6 ∧ HasFunct (.nor rs rt rd sh) 0x27#6 ∧
    exec (.and rs rt rd sh) s = .next (aluWritten s (s.opA &&& s.opB)) ∧
    exec (.or rs rt rd sh) s = .next (aluWritten s (s.opA ||| s.opB)) ∧
    exec (.xor rs rt rd sh) s = .next (aluWritten s (s.opA ^^^ s.opB)) ∧
    exec (.nor rs rt rd sh) s = .next (aluWritten s (~~~(s.opA ||| s.opB)))

/-- EX of `slt` and `sltu` (R149, R150, R151): 1 or 0 by the signed or unsigned comparison; with `rd` 0 ALUOutput is held. -/
def Obligations.SetLessThanWritesOneOrZero : Prop :=
  ∀ (rs rt rd : RegIdx) (sh : Shamt) (s : State), s.stage = .ex →
    HasFunct (.slt rs rt rd sh) 0x2a#6 ∧ HasFunct (.sltu rs rt rd sh) 0x2b#6 ∧
    (rd ≠ 0#5 →
      exec (.slt rs rt rd sh) s = .next (aluWritten s (if s.opA.toInt < s.opB.toInt then 1#32 else 0#32)) ∧
      exec (.sltu rs rt rd sh) s = .next (aluWritten s (if s.opA.toNat < s.opB.toNat then 1#32 else 0#32))) ∧
    (rd = 0#5 → exec (.slt rs rt rd sh) s = .next (aluHeld s) ∧ exec (.sltu rs rt rd sh) s = .next (aluHeld s))

/-- EX of `sll` (R151, R152): the shift and the second increment of `NXT.pc`, both only when `rd` is not 0. -/
def Obligations.ShiftLeftAlsoBumpsThePc : Prop :=
  ∀ (rs rt rd : RegIdx) (sh : Shamt) (s : State), s.stage = .ex →
    HasFunct (.sll rs rt rd sh) 0x00#6 ∧
    (rd ≠ 0#5 → exec (.sll rs rt rd sh) s =
      .next { aluWritten s (s.opB <<< sh.toNat) with nxt := { s.nxt with pc := s.nxt.pc + 4 } }) ∧
    (rd = 0#5 → exec (.sll rs rt rd sh) s = .next (aluHeld s))

/-- EX of `srl` and `sra` (R151, R153, R154): the logical and the arithmetic shift, only when `rd` is not 0; the PC is not
moved. -/
def Obligations.RightShiftsWriteTheShiftedValue : Prop :=
  ∀ (rs rt rd : RegIdx) (sh : Shamt) (s : State), s.stage = .ex →
    HasFunct (.srl rs rt rd sh) 0x02#6 ∧ HasFunct (.sra rs rt rd sh) 0x03#6 ∧
    (rd ≠ 0#5 →
      exec (.srl rs rt rd sh) s = .next (aluWritten s (s.opB >>> sh.toNat)) ∧
      exec (.sra rs rt rd sh) s = .next (aluWritten s (s.opB.sshiftRight sh.toNat))) ∧
    (rd = 0#5 → exec (.srl rs rt rd sh) s = .next (aluHeld s) ∧ exec (.sra rs rt rd sh) s = .next (aluHeld s))

/-- EX of `mult` and `multu` (R155, R156): the low word of the product, whether the operands are read unsigned or signed;
HI and LO are not written. -/
def Obligations.MultiplyWritesTheLowWord : Prop :=
  ∀ (rs rt rd : RegIdx) (sh : Shamt) (s : State), s.stage = .ex →
    HasFunct (.mult rs rt rd sh) 0x18#6 ∧ HasFunct (.multu rs rt rd sh) 0x19#6 ∧
    ∀ i ∈ [Instr.mult rs rt rd sh, .multu rs rt rd sh],
      exec i s = .next (aluWritten s (BitVec.ofNat 32 (s.opA.toNat * s.opB.toNat))) ∧
      exec i s = .next (aluWritten s (BitVec.ofInt 32 (s.opA.toInt * s.opB.toInt)))

/-- EX of `div` (R157): by zero, the diagnostic and a held ALUOutput; else the unsigned quotient rounded down, or with
`DIV_SIGNED` the signed one truncated toward zero, but for 0x80000000 by 0xFFFFFFFF, which is `fault DivOverflow`.
The cycle number is the model's (log entry 7), and what the fault carries (log entry 8). -/
def Obligations.DivWritesTheQuotient : Prop :=
  ∀ (rs rt rd : RegIdx) (sh : Shamt) (s : State), s.stage = .ex →
    HasFunct (.div rs rt rd sh) 0x1a#6 ∧
    (s.opB = 0#32 → exec (.div rs rt rd sh) s =
      .next { aluHeld s with diag := s.diag ++ [⟨s.cycleCount.toNat + 1, .divByZero⟩] }) ∧
    (s.opB ≠ 0#32 → s.cfg.divSigned = false →
      exec (.div rs rt rd sh) s = .next (aluWritten s (BitVec.ofNat 32 (s.opA.toNat / s.opB.toNat)))) ∧
    (s.opB ≠ 0#32 → s.cfg.divSigned = true → ¬(s.opA = 0x80000000#32 ∧ s.opB = 0xFFFFFFFF#32) →
      exec (.div rs rt rd sh) s = .next (aluWritten s (BitVec.ofInt 32 (s.opA.toInt.tdiv s.opB.toInt)))) ∧
    (s.cfg.divSigned = true → s.opA = 0x80000000#32 → s.opB = 0xFFFFFFFF#32 →
      exec (.div rs rt rd sh) s = .fault (.divOverflow (s.cycleCount.toNat + 1) s.diag))

/-- EX of `divu` (R159): the unsigned quotient whatever `DIV_SIGNED` is; by zero, the diagnostic and a held ALUOutput.
The cycle number is the model's (log entry 7). -/
def Obligations.DivuWritesTheUnsignedQuotient : Prop :=
  ∀ (rs rt rd : RegIdx) (sh : Shamt) (s : State), s.stage = .ex →
    HasFunct (.divu rs rt rd sh) 0x1b#6 ∧
    (s.opB = 0#32 → exec (.divu rs rt rd sh) s =
      .next { aluHeld s with diag := s.diag ++ [⟨s.cycleCount.toNat + 1, .divByZero⟩] }) ∧
    (s.opB ≠ 0#32 →
      exec (.divu rs rt rd sh) s = .next (aluWritten s (BitVec.ofNat 32 (s.opA.toNat / s.opB.toNat))))

/-- EX of `syscall` (R158, R100): `running` is cleared when `x[2]` is the word 0x0000000A, whatever the other fields are;
ALUOutput is held. -/
def Obligations.SyscallHaltsOnTen : Prop :=
  ∀ (rs rt rd : RegIdx) (sh : Shamt) (s : State), s.stage = .ex →
    HasFunct (.syscall rs rt rd sh) 0x0c#6 ∧
    (s.x 2#5 = 0x0000000A#32 → exec (.syscall rs rt rd sh) s = .next { aluHeld s with running := false }) ∧
    (s.x 2#5 ≠ 0x0000000A#32 → exec (.syscall rs rt rd sh) s = .next (aluHeld s))

/-- EX of the 46 unlisted funct codes (R102, R160): nothing beyond EX/MEM.IR. -/
def Obligations.UnlistedFunctsWriteOnlyTheWord : Prop :=
  ∀ (i : Instr) (s : State), i.isUnlisted = true → s.stage = .ex →
    opcodeField (encode i) = 0#6 ∧ functField (encode i) ∉ listedFuncts ∧ exec i s = .next (aluHeld s)

/-- EX of `addi` and `addiu` (R181, R182): `a` plus the sign-extended immediate of ID/EX, modulo 2^32. -/
def Obligations.AddImmediateWritesTheSum : Prop :=
  ∀ (rs rt : RegIdx) (imm : Half) (s : State), s.stage = .ex →
    HasOpcode (.addi rs rt imm) 0x08#6 ∧ HasOpcode (.addiu rs rt imm) 0x09#6 ∧
    exec (.addi rs rt imm) s = .next (aluWritten s (s.opA + s.idex.imm)) ∧
    exec (.addiu rs rt imm) s = .next (aluWritten s (s.opA + s.idex.imm))

/-- EX of `andi`, `ori` and `xori` (R183 to R185): with the zero-extension of the low 16 bits of the immediate of ID/EX. -/
def Obligations.LogicalImmediateZeroExtends : Prop :=
  ∀ (rs rt : RegIdx) (imm : Half) (s : State), s.stage = .ex →
    let z := (s.idex.imm.extractLsb' 0 16).zeroExtend 32
    HasOpcode (.andi rs rt imm) 0x0c#6 ∧ HasOpcode (.ori rs rt imm) 0x0d#6 ∧ HasOpcode (.xori rs rt imm) 0x0e#6 ∧
    exec (.andi rs rt imm) s = .next (aluWritten s (s.opA &&& z)) ∧
    exec (.ori rs rt imm) s = .next (aluWritten s (s.opA ||| z)) ∧
    exec (.xori rs rt imm) s = .next (aluWritten s (s.opA ^^^ z))

/-- EX of the 4 loads, the 3 stores and the 51 OTHER opcodes (R187): `a` plus the immediate into ALUOutput, and `x[rt]`
captured in EX/MEM.B. -/
def Obligations.CatchAllComputesTheAddressAndCapturesRt : Prop :=
  ∀ (i : Instr) (s : State), i.cls = .load ∨ i.cls = .store ∨ i.cls = .other → s.stage = .ex →
    opcodeField (encode i) ∈ loadCodes ++ storeCodes ++ otherCodes ∧
    exec i s = .next { s with exmem := ⟨s.idex.ir, s.exmem.a, s.opB, s.opA + s.idex.imm⟩ }

/-! ### The loader, for every program -/

/-- R250, D21: whatever the program and the regions, the loader puts each word where `write32` puts it and returns the number
of words. The first word that straddles a region's end stops reset with `fault StraddleAccess` (whose cycle number 0 and
diagnostics are the model's choice, log entry 8). If none does, reset succeeds; a word inside any region, the text region
or another, is read back there, a word at an unmapped address goes nowhere, and every byte that no word covers is 0. The
length bound keeps a program from wrapping onto itself (log entry 15). -/
def Obligations.LoaderPutsEachWordWhereWrite32Does : Prop :=
  ∀ (cfg : Config) (program : List Word),
    (∀ k, k < program.length → accessAt cfg.regions (programAddress cfg k) = .straddles →
      (∀ j, j < k → accessAt cfg.regions (programAddress cfg j) ≠ .straddles) →
      loadProgram cfg [] program = .error (programAddress cfg k) ∧
      State.resetWith cfg (some program) = .fault (.straddleAccess (programAddress cfg k) 0 [])) ∧
    ((∀ k, k < program.length → accessAt cfg.regions (programAddress cfg k) ≠ .straddles) →
      4 * program.length ≤ 2 ^ 32 →
      ∃ l s, loadProgram cfg [] program = .ok l ∧ l.wordCount = program.length ∧
        State.resetWith cfg (some program) = .next s ∧ s.mem = l.mem ∧
        (∀ k w, program[k]? = some w →
          read32 cfg.regions s.mem (programAddress cfg k) =
            some (if accessAt cfg.regions (programAddress cfg k) = .unmapped then 0#32 else w)) ∧
        ∀ a, (∀ k, k < program.length → accessAt cfg.regions (programAddress cfg k) = .inside →
            a < (programAddress cfg k).toNat ∨ (programAddress cfg k).toNat + 3 < a) →
          byteAt s.mem a = 0#8)
end

