-- ==== Sys2Proof/Laws/Memory.lean ====
section
/-! SUPPORT. Laws of memory: the canonical form is kept by every operation, equal contents are equal data, and a byte or a
word reads back what was written and nothing else changes (R62, R63). -/

namespace Sys2Proof.Machine

theorem Memory.wfFrom_cons (low a : Nat) (b : Byte) (m : Memory) :
    Memory.wfFrom low ((a, b) :: m) = true ↔ low ≤ a ∧ b ≠ 0#8 ∧ Memory.wfFrom (a + 1) m = true := by
  simp [Memory.wfFrom, and_assoc]

theorem Memory.wfFrom_mono (m : Memory) : ∀ low low', low' ≤ low → Memory.wfFrom low m = true →
    Memory.wfFrom low' m = true := by
  intro low low' h hm
  cases m with
  | nil => rfl
  | cons c m =>
    obtain ⟨a, b⟩ := c
    rw [Memory.wfFrom_cons] at hm ⊢
    exact ⟨by omega, hm.2⟩

/-- Below the first address that may be listed every byte reads 0. -/
theorem byteAt_below (m : Memory) : ∀ low k, Memory.wfFrom low m = true → k < low → byteAt m k = 0#8 := by
  induction m with
  | nil => intros; rfl
  | cons c m ih =>
    obtain ⟨a, b⟩ := c
    intro low k hm hk
    rw [Memory.wfFrom_cons] at hm
    have h1 : ¬a = k := by omega
    simp only [byteAt, h1, if_false]
    exact ih (a + 1) k hm.2.2 (by omega)

/-- Writing a byte keeps the canonical form. -/
theorem setByte_wfFrom (k : Nat) (v : Byte) (m : Memory) : ∀ low, low ≤ k → Memory.wfFrom low m = true →
    Memory.wfFrom low (setByte m k v) = true := by
  induction m with
  | nil =>
    intro low hk _
    simp only [setByte]
    split
    · rfl
    · rename_i hv
      exact (Memory.wfFrom_cons _ _ _ _).2 ⟨hk, hv, rfl⟩
  | cons c m ih =>
    obtain ⟨a, b⟩ := c
    intro low hk hm
    have hm' := (Memory.wfFrom_cons low a b m).1 hm
    simp only [setByte]
    split
    · split
      · exact hm
      · rename_i h1 h2
        exact (Memory.wfFrom_cons _ _ _ _).2 ⟨hk, h2, (Memory.wfFrom_cons _ _ _ _).2 ⟨by omega, hm'.2⟩⟩
    · split
      · rename_i h1 h2
        subst h2
        split
        · exact Memory.wfFrom_mono m _ _ (by omega) hm'.2.2
        · rename_i h3
          exact (Memory.wfFrom_cons _ _ _ _).2 ⟨hk, h3, hm'.2.2⟩
      · exact (Memory.wfFrom_cons _ _ _ _).2 ⟨hm'.1, hm'.2.1, ih _ (by omega) hm'.2.2⟩

theorem setByte_wf (m : Memory) (k : Nat) (v : Byte) (h : m.wf = true) : Memory.wf (setByte m k v) = true :=
  setByte_wfFrom k v m 0 (Nat.zero_le k) h

theorem byteAt_setByte_from (k j : Nat) (v : Byte) (m : Memory) : ∀ low, Memory.wfFrom low m = true →
    byteAt (setByte m k v) j = if j = k then v else byteAt m j := by
  induction m with
  | nil =>
    intro low _
    simp only [setByte]
    split
    · rename_i hv
      simp [hv, byteAt]
    · by_cases hj : j = k
      · simp [byteAt, hj]
      · have : ¬k = j := fun e => hj e.symm
        simp [byteAt, hj, this]
  | cons c m ih =>
    obtain ⟨a, b⟩ := c
    intro low hm
    have hm' := (Memory.wfFrom_cons low a b m).1 hm
    have hbelow := byteAt_below m (a + 1)
    by_cases hj : j = k
    · subst hj
      simp only [setByte]
      split
      · split
        · rename_i h1 h2
          have : ¬a = j := by omega
          simp [byteAt, this, hbelow j hm'.2.2 (by omega), h2]
        · simp [byteAt]
      · split
        · rename_i h1 h2
          subst h2
          split
          · rename_i h3
            simp [hbelow j hm'.2.2 (by omega), h3]
          · simp [byteAt]
        · rename_i h1 h2
          have : ¬a = j := by omega
          simp [byteAt, this, ih _ hm'.2.2]
    · have hkj : ¬k = j := fun e => hj e.symm
      simp only [setByte, hj, if_false]
      split
      · split
        · rfl
        · simp [byteAt, hkj]
      · split
        · rename_i h1 h2
          subst h2
          split <;> simp [byteAt, hkj]
        · simp [byteAt, ih _ hm'.2.2, hj]

/-- A byte reads back what was written there, and every other byte is as before. -/
theorem byteAt_setByte (m : Memory) (k j : Nat) (v : Byte) (h : m.wf = true) :
    byteAt (setByte m k v) j = if j = k then v else byteAt m j :=
  byteAt_setByte_from k j v m 0 h

/-- Memories in canonical form with the same bytes are the same data. -/
theorem Memory.ext_from (m : Memory) : ∀ (n : Memory) (low : Nat), Memory.wfFrom low m = true →
    Memory.wfFrom low n = true → (∀ k, byteAt m k = byteAt n k) → m = n := by
  induction m with
  | nil =>
    intro n low _ hn h
    cases n with
    | nil => rfl
    | cons c n =>
      obtain ⟨a, b⟩ := c
      have h1 := h a
      simp [byteAt] at h1
      exact absurd h1.symm ((Memory.wfFrom_cons _ _ _ _).1 hn).2.1
  | cons c m ih =>
    obtain ⟨a, b⟩ := c
    intro n low hm hn h
    have hm' := (Memory.wfFrom_cons _ _ _ _).1 hm
    cases n with
    | nil =>
      have h1 := h a
      simp [byteAt] at h1
      exact absurd h1 hm'.2.1
    | cons d n =>
      obtain ⟨a', b'⟩ := d
      have hn' := (Memory.wfFrom_cons _ _ _ _).1 hn
      have hab : a = a' := by
        rcases Nat.lt_trichotomy a a' with hlt | heq | hgt
        · have h1 := h a
          have h2 : ¬a' = a := by omega
          simp [byteAt, h2, byteAt_below n (a' + 1) a hn'.2.2 (by omega)] at h1
          exact absurd h1 hm'.2.1
        · exact heq
        · have h1 := h a'
          have h2 : ¬a = a' := by omega
          simp [byteAt, h2, byteAt_below m (a + 1) a' hm'.2.2 (by omega)] at h1
          exact absurd h1.symm hn'.2.1
      subst hab
      have hb : b = b' := by have h1 := h a; simpa [byteAt] using h1
      subst hb
      have hmn : m = n := by
        refine ih n (a + 1) hm'.2.2 hn'.2.2 fun k => ?_
        by_cases hk : a = k
        · rw [byteAt_below m (a + 1) k hm'.2.2 (by omega), byteAt_below n (a + 1) k hn'.2.2 (by omega)]
        · have h1 := h k
          simpa [byteAt, hk] using h1
      rw [hmn]

theorem setWord_wf (m : Memory) (k : Nat) (v : Word) (h : m.wf = true) : Memory.wf (setWord m k v) = true :=
  setByte_wf _ _ _ (setByte_wf _ _ _ (setByte_wf _ _ _ (setByte_wf _ _ _ h)))

/-- After a word is written, its four bytes stand little-endian and every other byte is as before (R63). -/
theorem byteAt_setWord (m : Memory) (k j : Nat) (v : Word) (h : m.wf = true) :
    byteAt (setWord m k v) j =
      if j = k + 3 then byteOfWord v 3
      else if j = k + 2 then byteOfWord v 2
      else if j = k + 1 then byteOfWord v 1
      else if j = k then byteOfWord v 0
      else byteAt m j := by
  have h0 := setByte_wf m k (byteOfWord v 0) h
  have h1 := setByte_wf _ (k + 1) (byteOfWord v 1) h0
  have h2 := setByte_wf _ (k + 2) (byteOfWord v 2) h1
  simp only [setWord]
  rw [byteAt_setByte _ _ _ _ h2, byteAt_setByte _ _ _ _ h1, byteAt_setByte _ _ _ _ h0, byteAt_setByte _ _ _ _ h]

theorem byteAt_setWord_outside (m : Memory) (k j : Nat) (v : Word) (h : m.wf = true) (hj : j < k ∨ k + 3 < j) :
    byteAt (setWord m k v) j = byteAt m j := by
  rw [byteAt_setWord m k j v h]
  have h3 : ¬j = k + 3 := by omega
  have h2 : ¬j = k + 2 := by omega
  have h1 : ¬j = k + 1 := by omega
  have h0 : ¬j = k := by omega
  simp [h0, h1, h2, h3]

/-- The four bytes of a word, put together again, are the word (R65). -/
theorem wordOfBytes_byteOfWord (w : Word) :
    wordOfBytes (byteOfWord w 0) (byteOfWord w 1) (byteOfWord w 2) (byteOfWord w 3) = w := by
  apply BitVec.eq_of_getLsbD_eq
  intro i hi
  simp only [wordOfBytes, byteOfWord, BitVec.getLsbD_append, BitVec.getLsbD_extractLsb']
  by_cases h0 : i < 8
  · simp [h0]
  · by_cases h1 : i < 16
    · have : i - 8 < 8 := by omega
      have e : 8 + (i - 8) = i := by omega
      simp [h0, this, e]
    · by_cases h2 : i < 24
      · have a : ¬ i - 8 < 8 := by omega
        have b : i - 8 - 8 < 8 := by omega
        have e : 16 + (i - 8 - 8) = i := by omega
        simp [h0, a, b, e]
      · have a : ¬ i - 8 < 8 := by omega
        have b : ¬ i - 8 - 8 < 8 := by omega
        have c : i - 8 - 8 - 8 < 8 := by omega
        have e : 24 + (i - 8 - 8 - 8) = i := by omega
        simp [h0, a, b, c, e]

/-- A word reads back what was written. -/
theorem wordAt_setWord (m : Memory) (k : Nat) (v : Word) (h : m.wf = true) : wordAt (setWord m k v) k = v := by
  simp only [wordAt, byteAt_setWord m k _ v h]
  simp [wordOfBytes_byteOfWord]

/-- A word that shares no byte with a written word reads as before. -/
theorem wordAt_setWord_outside (m : Memory) (k j : Nat) (v : Word) (h : m.wf = true) (hj : j + 3 < k ∨ k + 3 < j) :
    wordAt (setWord m k v) j = wordAt m j := by
  simp only [wordAt]
  rw [byteAt_setWord_outside m k _ v h (by omega), byteAt_setWord_outside m k _ v h (by omega),
    byteAt_setWord_outside m k _ v h (by omega), byteAt_setWord_outside m k _ v h (by omega)]

/-! ### Where an access falls -/

theorem Region.contains_iff (r : Region) (a : Word) :
    r.contains a = true ↔ r.beginAddr.toNat ≤ a.toNat ∧ a.toNat ≤ r.endAddr.toNat := by
  simp [Region.contains, BitVec.le_def]

/-- The region found contains the address and is one of the list (R61). -/
theorem regionOf_some {rs : List Region} {a : Word} {r : Region} (h : regionOf rs a = some r) :
    r ∈ rs ∧ r.beginAddr.toNat ≤ a.toNat ∧ a.toNat ≤ r.endAddr.toNat :=
  ⟨List.mem_of_find?_eq_some h, (Region.contains_iff r a).1 (by simpa using List.find?_some h)⟩

theorem regionOf_none_iff (rs : List Region) (a : Word) :
    regionOf rs a = none ↔ ∀ r ∈ rs, r.contains a = false := by
  simp [regionOf]

/-- An access inside a region: a region of the list holds its four bytes. -/
theorem accessAt_inside {rs : List Region} {a : Word} (h : accessAt rs a = .inside) :
    ∃ r ∈ rs, r.beginAddr.toNat ≤ a.toNat ∧ a.toNat + 3 ≤ r.endAddr.toNat := by
  unfold accessAt at h
  split at h
  · cases h
  · rename_i r hr
    obtain ⟨hm, h1, _⟩ := regionOf_some hr
    split at h
    · cases h
    · exact ⟨r, hm, h1, by omega⟩

/-- What `write32` can answer: an unmapped address changes nothing, an access inside a region writes its four bytes. -/
theorem write32_some {rs : List Region} {m m' : Memory} {a v : Word} (h : write32 rs m a v = some m') :
    (accessAt rs a = .unmapped ∧ m' = m) ∨ (accessAt rs a = .inside ∧ m' = setWord m a.toNat v) := by
  unfold write32 at h
  split at h <;> rename_i e
  · exact .inl ⟨e, by simpa using h.symm⟩
  · exact .inr ⟨e, by simpa using h.symm⟩
  · cases h

/-- What `read32` can answer: 0 at an unmapped address, the word from the address inside a region. -/
theorem read32_some {rs : List Region} {m : Memory} {a v : Word} (h : read32 rs m a = some v) :
    (accessAt rs a = .unmapped ∧ v = 0#32) ∨ (accessAt rs a = .inside ∧ v = wordAt m a.toNat) := by
  unfold read32 at h
  split at h <;> rename_i e
  · exact .inl ⟨e, by simpa using h.symm⟩
  · exact .inr ⟨e, by simpa using h.symm⟩
  · cases h

/-- `write32` keeps the canonical form. -/
theorem write32_wf {rs : List Region} {m m' : Memory} {a v : Word} (hm : m.wf = true)
    (h : write32 rs m a v = some m') : m'.wf = true := by
  rcases write32_some h with ⟨_, rfl⟩ | ⟨_, rfl⟩
  · exact hm
  · exact setWord_wf m _ v hm

/-- The loader keeps the canonical form. -/
theorem load_wf (rs : List Region) (ws : List Word) : ∀ (m m' : Memory) (a : Word), m.wf = true →
    load rs m a ws = .ok m' → m'.wf = true := by
  induction ws with
  | nil => intro m m' a hm h; simp [load] at h; exact h ▸ hm
  | cons w ws ih =>
    intro m m' a hm h
    simp only [load] at h
    split at h
    · rename_i m1 h1
      exact ih m1 m' _ (write32_wf hm h1) h
    · cases h

/-- The memory of `State.reset` has the canonical form. -/
theorem reset_memory_wf : State.reset.mem.wf = true := rfl

end Sys2Proof.Machine
end

