-- ==== Sys2Proof/Laws/State.lean ====
section
/-! SUPPORT. One lemma for each field of State under each update, and the register file's read-after-write laws. -/

namespace Sys2Proof.Machine

@[simp] theorem State.atStage_cfg (s : State) (g : Stage) : (s.atStage g).cfg = s.cfg := rfl
@[simp] theorem State.atStage_cur (s : State) (g : Stage) : (s.atStage g).cur = s.cur := rfl
@[simp] theorem State.atStage_nxt (s : State) (g : Stage) : (s.atStage g).nxt = s.nxt := rfl
@[simp] theorem State.atStage_ifid (s : State) (g : Stage) : (s.atStage g).ifid = s.ifid := rfl
@[simp] theorem State.atStage_idex (s : State) (g : Stage) : (s.atStage g).idex = s.idex := rfl
@[simp] theorem State.atStage_exmem (s : State) (g : Stage) : (s.atStage g).exmem = s.exmem := rfl
@[simp] theorem State.atStage_memwb (s : State) (g : Stage) : (s.atStage g).memwb = s.memwb := rfl
@[simp] theorem State.atStage_mem (s : State) (g : Stage) : (s.atStage g).mem = s.mem := rfl
@[simp] theorem State.atStage_running (s : State) (g : Stage) : (s.atStage g).running = s.running := rfl
@[simp] theorem State.atStage_cycleCount (s : State) (g : Stage) : (s.atStage g).cycleCount = s.cycleCount := rfl
@[simp] theorem State.atStage_instructionCount (s : State) (g : Stage) : (s.atStage g).instructionCount = s.instructionCount := rfl
@[simp] theorem State.atStage_diag (s : State) (g : Stage) : (s.atStage g).diag = s.diag := rfl
@[simp] theorem State.atStage_stage (s : State) (g : Stage) : (s.atStage g).stage = g := rfl

@[simp] theorem State.beginCycle_cfg (s : State) : (s.beginCycle).cfg = s.cfg := rfl
@[simp] theorem State.beginCycle_cur (s : State) : (s.beginCycle).cur = s.cur := rfl
@[simp] theorem State.beginCycle_nxt (s : State) : (s.beginCycle).nxt = s.cur := rfl
@[simp] theorem State.beginCycle_ifid (s : State) : (s.beginCycle).ifid = s.ifid := rfl
@[simp] theorem State.beginCycle_idex (s : State) : (s.beginCycle).idex = s.idex := rfl
@[simp] theorem State.beginCycle_exmem (s : State) : (s.beginCycle).exmem = s.exmem := rfl
@[simp] theorem State.beginCycle_memwb (s : State) : (s.beginCycle).memwb = s.memwb := rfl
@[simp] theorem State.beginCycle_mem (s : State) : (s.beginCycle).mem = s.mem := rfl
@[simp] theorem State.beginCycle_running (s : State) : (s.beginCycle).running = s.running := rfl
@[simp] theorem State.beginCycle_cycleCount (s : State) : (s.beginCycle).cycleCount = s.cycleCount := rfl
@[simp] theorem State.beginCycle_instructionCount (s : State) : (s.beginCycle).instructionCount = s.instructionCount := rfl
@[simp] theorem State.beginCycle_diag (s : State) : (s.beginCycle).diag = s.diag := rfl
@[simp] theorem State.beginCycle_stage (s : State) : (s.beginCycle).stage = .wb := rfl

@[simp] theorem State.commit_cfg (s : State) : (s.commit).cfg = s.cfg := rfl
@[simp] theorem State.commit_cur (s : State) : (s.commit).cur = s.nxt := rfl
@[simp] theorem State.commit_nxt (s : State) : (s.commit).nxt = s.nxt := rfl
@[simp] theorem State.commit_ifid (s : State) : (s.commit).ifid = s.ifid := rfl
@[simp] theorem State.commit_idex (s : State) : (s.commit).idex = s.idex := rfl
@[simp] theorem State.commit_exmem (s : State) : (s.commit).exmem = s.exmem := rfl
@[simp] theorem State.commit_memwb (s : State) : (s.commit).memwb = s.memwb := rfl
@[simp] theorem State.commit_mem (s : State) : (s.commit).mem = s.mem := rfl
@[simp] theorem State.commit_running (s : State) : (s.commit).running = s.running := rfl
@[simp] theorem State.commit_cycleCount (s : State) : (s.commit).cycleCount = s.cycleCount + 1 := rfl
@[simp] theorem State.commit_instructionCount (s : State) : (s.commit).instructionCount = s.instructionCount := rfl
@[simp] theorem State.commit_diag (s : State) : (s.commit).diag = s.diag := rfl
@[simp] theorem State.commit_stage (s : State) : (s.commit).stage = .wb := rfl

@[simp] theorem State.halt_cfg (s : State) : (s.halt).cfg = s.cfg := rfl
@[simp] theorem State.halt_cur (s : State) : (s.halt).cur = s.cur := rfl
@[simp] theorem State.halt_nxt (s : State) : (s.halt).nxt = s.nxt := rfl
@[simp] theorem State.halt_ifid (s : State) : (s.halt).ifid = s.ifid := rfl
@[simp] theorem State.halt_idex (s : State) : (s.halt).idex = s.idex := rfl
@[simp] theorem State.halt_exmem (s : State) : (s.halt).exmem = s.exmem := rfl
@[simp] theorem State.halt_memwb (s : State) : (s.halt).memwb = s.memwb := rfl
@[simp] theorem State.halt_mem (s : State) : (s.halt).mem = s.mem := rfl
@[simp] theorem State.halt_running (s : State) : (s.halt).running = false := rfl
@[simp] theorem State.halt_cycleCount (s : State) : (s.halt).cycleCount = s.cycleCount := rfl
@[simp] theorem State.halt_instructionCount (s : State) : (s.halt).instructionCount = s.instructionCount := rfl
@[simp] theorem State.halt_diag (s : State) : (s.halt).diag = s.diag := rfl
@[simp] theorem State.halt_stage (s : State) : (s.halt).stage = s.stage := rfl

@[simp] theorem State.emitDivByZero_cfg (s : State) : (s.emitDivByZero).cfg = s.cfg := rfl
@[simp] theorem State.emitDivByZero_cur (s : State) : (s.emitDivByZero).cur = s.cur := rfl
@[simp] theorem State.emitDivByZero_nxt (s : State) : (s.emitDivByZero).nxt = s.nxt := rfl
@[simp] theorem State.emitDivByZero_ifid (s : State) : (s.emitDivByZero).ifid = s.ifid := rfl
@[simp] theorem State.emitDivByZero_idex (s : State) : (s.emitDivByZero).idex = s.idex := rfl
@[simp] theorem State.emitDivByZero_exmem (s : State) : (s.emitDivByZero).exmem = s.exmem := rfl
@[simp] theorem State.emitDivByZero_memwb (s : State) : (s.emitDivByZero).memwb = s.memwb := rfl
@[simp] theorem State.emitDivByZero_mem (s : State) : (s.emitDivByZero).mem = s.mem := rfl
@[simp] theorem State.emitDivByZero_running (s : State) : (s.emitDivByZero).running = s.running := rfl
@[simp] theorem State.emitDivByZero_cycleCount (s : State) : (s.emitDivByZero).cycleCount = s.cycleCount := rfl
@[simp] theorem State.emitDivByZero_instructionCount (s : State) : (s.emitDivByZero).instructionCount = s.instructionCount := rfl
@[simp] theorem State.emitDivByZero_diag (s : State) : (s.emitDivByZero).diag = s.diag ++ [⟨s.cycleNumber, .divByZero⟩] := rfl
@[simp] theorem State.emitDivByZero_stage (s : State) : (s.emitDivByZero).stage = s.stage := rfl

@[simp] theorem State.idRType_cfg (s : State) (rs rt : RegIdx) : (s.idRType rs rt).cfg = s.cfg := rfl
@[simp] theorem State.idRType_cur (s : State) (rs rt : RegIdx) : (s.idRType rs rt).cur = s.cur := rfl
@[simp] theorem State.idRType_nxt (s : State) (rs rt : RegIdx) : (s.idRType rs rt).nxt = s.nxt := rfl
@[simp] theorem State.idRType_ifid (s : State) (rs rt : RegIdx) : (s.idRType rs rt).ifid = s.ifid := rfl
@[simp] theorem State.idRType_idex (s : State) (rs rt : RegIdx) : (s.idRType rs rt).idex = ⟨s.ifid.ir, idxWord rs, idxWord rt, s.idex.imm⟩ := rfl
@[simp] theorem State.idRType_exmem (s : State) (rs rt : RegIdx) : (s.idRType rs rt).exmem = s.exmem := rfl
@[simp] theorem State.idRType_memwb (s : State) (rs rt : RegIdx) : (s.idRType rs rt).memwb = s.memwb := rfl
@[simp] theorem State.idRType_mem (s : State) (rs rt : RegIdx) : (s.idRType rs rt).mem = s.mem := rfl
@[simp] theorem State.idRType_running (s : State) (rs rt : RegIdx) : (s.idRType rs rt).running = s.running := rfl
@[simp] theorem State.idRType_cycleCount (s : State) (rs rt : RegIdx) : (s.idRType rs rt).cycleCount = s.cycleCount := rfl
@[simp] theorem State.idRType_instructionCount (s : State) (rs rt : RegIdx) : (s.idRType rs rt).instructionCount = s.instructionCount := rfl
@[simp] theorem State.idRType_diag (s : State) (rs rt : RegIdx) : (s.idRType rs rt).diag = s.diag := rfl
@[simp] theorem State.idRType_stage (s : State) (rs rt : RegIdx) : (s.idRType rs rt).stage = s.stage := rfl

@[simp] theorem State.idIType_cfg (s : State) (rs rt : RegIdx) (imm : Half) : (s.idIType rs rt imm).cfg = s.cfg := rfl
@[simp] theorem State.idIType_cur (s : State) (rs rt : RegIdx) (imm : Half) : (s.idIType rs rt imm).cur = s.cur := rfl
@[simp] theorem State.idIType_nxt (s : State) (rs rt : RegIdx) (imm : Half) : (s.idIType rs rt imm).nxt = s.nxt := rfl
@[simp] theorem State.idIType_ifid (s : State) (rs rt : RegIdx) (imm : Half) : (s.idIType rs rt imm).ifid = s.ifid := rfl
@[simp] theorem State.idIType_idex (s : State) (rs rt : RegIdx) (imm : Half) : (s.idIType rs rt imm).idex = ⟨s.ifid.ir, idxWord rs, idxWord rt, sext32 imm⟩ := rfl
@[simp] theorem State.idIType_exmem (s : State) (rs rt : RegIdx) (imm : Half) : (s.idIType rs rt imm).exmem = s.exmem := rfl
@[simp] theorem State.idIType_memwb (s : State) (rs rt : RegIdx) (imm : Half) : (s.idIType rs rt imm).memwb = s.memwb := rfl
@[simp] theorem State.idIType_mem (s : State) (rs rt : RegIdx) (imm : Half) : (s.idIType rs rt imm).mem = s.mem := rfl
@[simp] theorem State.idIType_running (s : State) (rs rt : RegIdx) (imm : Half) : (s.idIType rs rt imm).running = s.running := rfl
@[simp] theorem State.idIType_cycleCount (s : State) (rs rt : RegIdx) (imm : Half) : (s.idIType rs rt imm).cycleCount = s.cycleCount := rfl
@[simp] theorem State.idIType_instructionCount (s : State) (rs rt : RegIdx) (imm : Half) : (s.idIType rs rt imm).instructionCount = s.instructionCount := rfl
@[simp] theorem State.idIType_diag (s : State) (rs rt : RegIdx) (imm : Half) : (s.idIType rs rt imm).diag = s.diag := rfl
@[simp] theorem State.idIType_stage (s : State) (rs rt : RegIdx) (imm : Half) : (s.idIType rs rt imm).stage = s.stage := rfl

@[simp] theorem State.exIr_cfg (s : State) : (s.exIr).cfg = s.cfg := rfl
@[simp] theorem State.exIr_cur (s : State) : (s.exIr).cur = s.cur := rfl
@[simp] theorem State.exIr_nxt (s : State) : (s.exIr).nxt = s.nxt := rfl
@[simp] theorem State.exIr_ifid (s : State) : (s.exIr).ifid = s.ifid := rfl
@[simp] theorem State.exIr_idex (s : State) : (s.exIr).idex = s.idex := rfl
@[simp] theorem State.exIr_exmem (s : State) : (s.exIr).exmem = ⟨s.idex.ir, s.exmem.a, s.exmem.b, s.exmem.aluOutput⟩ := rfl
@[simp] theorem State.exIr_memwb (s : State) : (s.exIr).memwb = s.memwb := rfl
@[simp] theorem State.exIr_mem (s : State) : (s.exIr).mem = s.mem := rfl
@[simp] theorem State.exIr_running (s : State) : (s.exIr).running = s.running := rfl
@[simp] theorem State.exIr_cycleCount (s : State) : (s.exIr).cycleCount = s.cycleCount := rfl
@[simp] theorem State.exIr_instructionCount (s : State) : (s.exIr).instructionCount = s.instructionCount := rfl
@[simp] theorem State.exIr_diag (s : State) : (s.exIr).diag = s.diag := rfl
@[simp] theorem State.exIr_stage (s : State) : (s.exIr).stage = s.stage := rfl

@[simp] theorem State.setAlu_cfg (s : State) (v : Word) : (s.setAlu v).cfg = s.cfg := rfl
@[simp] theorem State.setAlu_cur (s : State) (v : Word) : (s.setAlu v).cur = s.cur := rfl
@[simp] theorem State.setAlu_nxt (s : State) (v : Word) : (s.setAlu v).nxt = s.nxt := rfl
@[simp] theorem State.setAlu_ifid (s : State) (v : Word) : (s.setAlu v).ifid = s.ifid := rfl
@[simp] theorem State.setAlu_idex (s : State) (v : Word) : (s.setAlu v).idex = s.idex := rfl
@[simp] theorem State.setAlu_exmem (s : State) (v : Word) : (s.setAlu v).exmem = ⟨s.exmem.ir, s.exmem.a, s.exmem.b, v⟩ := rfl
@[simp] theorem State.setAlu_memwb (s : State) (v : Word) : (s.setAlu v).memwb = s.memwb := rfl
@[simp] theorem State.setAlu_mem (s : State) (v : Word) : (s.setAlu v).mem = s.mem := rfl
@[simp] theorem State.setAlu_running (s : State) (v : Word) : (s.setAlu v).running = s.running := rfl
@[simp] theorem State.setAlu_cycleCount (s : State) (v : Word) : (s.setAlu v).cycleCount = s.cycleCount := rfl
@[simp] theorem State.setAlu_instructionCount (s : State) (v : Word) : (s.setAlu v).instructionCount = s.instructionCount := rfl
@[simp] theorem State.setAlu_diag (s : State) (v : Word) : (s.setAlu v).diag = s.diag := rfl
@[simp] theorem State.setAlu_stage (s : State) (v : Word) : (s.setAlu v).stage = s.stage := rfl

@[simp] theorem State.setStoreValue_cfg (s : State) (v : Word) : (s.setStoreValue v).cfg = s.cfg := rfl
@[simp] theorem State.setStoreValue_cur (s : State) (v : Word) : (s.setStoreValue v).cur = s.cur := rfl
@[simp] theorem State.setStoreValue_nxt (s : State) (v : Word) : (s.setStoreValue v).nxt = s.nxt := rfl
@[simp] theorem State.setStoreValue_ifid (s : State) (v : Word) : (s.setStoreValue v).ifid = s.ifid := rfl
@[simp] theorem State.setStoreValue_idex (s : State) (v : Word) : (s.setStoreValue v).idex = s.idex := rfl
@[simp] theorem State.setStoreValue_exmem (s : State) (v : Word) : (s.setStoreValue v).exmem = ⟨s.exmem.ir, s.exmem.a, v, s.exmem.aluOutput⟩ := rfl
@[simp] theorem State.setStoreValue_memwb (s : State) (v : Word) : (s.setStoreValue v).memwb = s.memwb := rfl
@[simp] theorem State.setStoreValue_mem (s : State) (v : Word) : (s.setStoreValue v).mem = s.mem := rfl
@[simp] theorem State.setStoreValue_running (s : State) (v : Word) : (s.setStoreValue v).running = s.running := rfl
@[simp] theorem State.setStoreValue_cycleCount (s : State) (v : Word) : (s.setStoreValue v).cycleCount = s.cycleCount := rfl
@[simp] theorem State.setStoreValue_instructionCount (s : State) (v : Word) : (s.setStoreValue v).instructionCount = s.instructionCount := rfl
@[simp] theorem State.setStoreValue_diag (s : State) (v : Word) : (s.setStoreValue v).diag = s.diag := rfl
@[simp] theorem State.setStoreValue_stage (s : State) (v : Word) : (s.setStoreValue v).stage = s.stage := rfl

@[simp] theorem State.bumpPc_cfg (s : State) : (s.bumpPc).cfg = s.cfg := rfl
@[simp] theorem State.bumpPc_cur (s : State) : (s.bumpPc).cur = s.cur := rfl
@[simp] theorem State.bumpPc_nxt (s : State) : (s.bumpPc).nxt = ⟨s.nxt.pc + 4, s.nxt.regs, s.nxt.hi, s.nxt.lo⟩ := rfl
@[simp] theorem State.bumpPc_ifid (s : State) : (s.bumpPc).ifid = s.ifid := rfl
@[simp] theorem State.bumpPc_idex (s : State) : (s.bumpPc).idex = s.idex := rfl
@[simp] theorem State.bumpPc_exmem (s : State) : (s.bumpPc).exmem = s.exmem := rfl
@[simp] theorem State.bumpPc_memwb (s : State) : (s.bumpPc).memwb = s.memwb := rfl
@[simp] theorem State.bumpPc_mem (s : State) : (s.bumpPc).mem = s.mem := rfl
@[simp] theorem State.bumpPc_running (s : State) : (s.bumpPc).running = s.running := rfl
@[simp] theorem State.bumpPc_cycleCount (s : State) : (s.bumpPc).cycleCount = s.cycleCount := rfl
@[simp] theorem State.bumpPc_instructionCount (s : State) : (s.bumpPc).instructionCount = s.instructionCount := rfl
@[simp] theorem State.bumpPc_diag (s : State) : (s.bumpPc).diag = s.diag := rfl
@[simp] theorem State.bumpPc_stage (s : State) : (s.bumpPc).stage = s.stage := rfl

@[simp] theorem State.memIr_cfg (s : State) : (s.memIr).cfg = s.cfg := rfl
@[simp] theorem State.memIr_cur (s : State) : (s.memIr).cur = s.cur := rfl
@[simp] theorem State.memIr_nxt (s : State) : (s.memIr).nxt = s.nxt := rfl
@[simp] theorem State.memIr_ifid (s : State) : (s.memIr).ifid = s.ifid := rfl
@[simp] theorem State.memIr_idex (s : State) : (s.memIr).idex = s.idex := rfl
@[simp] theorem State.memIr_exmem (s : State) : (s.memIr).exmem = s.exmem := rfl
@[simp] theorem State.memIr_memwb (s : State) : (s.memIr).memwb = ⟨s.exmem.ir, s.memwb.aluOutput, s.memwb.lmd⟩ := rfl
@[simp] theorem State.memIr_mem (s : State) : (s.memIr).mem = s.mem := rfl
@[simp] theorem State.memIr_running (s : State) : (s.memIr).running = s.running := rfl
@[simp] theorem State.memIr_cycleCount (s : State) : (s.memIr).cycleCount = s.cycleCount := rfl
@[simp] theorem State.memIr_instructionCount (s : State) : (s.memIr).instructionCount = s.instructionCount := rfl
@[simp] theorem State.memIr_diag (s : State) : (s.memIr).diag = s.diag := rfl
@[simp] theorem State.memIr_stage (s : State) : (s.memIr).stage = s.stage := rfl

@[simp] theorem State.presetReg_cfg (s : State) (i : RegIdx) (v : Word) : (s.presetReg i v).cfg = s.cfg := rfl
@[simp] theorem State.presetReg_cur (s : State) (i : RegIdx) (v : Word) : (s.presetReg i v).cur = s.cur.setReg i v := rfl
@[simp] theorem State.presetReg_nxt (s : State) (i : RegIdx) (v : Word) : (s.presetReg i v).nxt = s.cur.setReg i v := rfl
@[simp] theorem State.presetReg_ifid (s : State) (i : RegIdx) (v : Word) : (s.presetReg i v).ifid = s.ifid := rfl
@[simp] theorem State.presetReg_idex (s : State) (i : RegIdx) (v : Word) : (s.presetReg i v).idex = s.idex := rfl
@[simp] theorem State.presetReg_exmem (s : State) (i : RegIdx) (v : Word) : (s.presetReg i v).exmem = s.exmem := rfl
@[simp] theorem State.presetReg_memwb (s : State) (i : RegIdx) (v : Word) : (s.presetReg i v).memwb = s.memwb := rfl
@[simp] theorem State.presetReg_mem (s : State) (i : RegIdx) (v : Word) : (s.presetReg i v).mem = s.mem := rfl
@[simp] theorem State.presetReg_running (s : State) (i : RegIdx) (v : Word) : (s.presetReg i v).running = s.running := rfl
@[simp] theorem State.presetReg_cycleCount (s : State) (i : RegIdx) (v : Word) : (s.presetReg i v).cycleCount = s.cycleCount := rfl
@[simp] theorem State.presetReg_instructionCount (s : State) (i : RegIdx) (v : Word) : (s.presetReg i v).instructionCount = s.instructionCount := rfl
@[simp] theorem State.presetReg_diag (s : State) (i : RegIdx) (v : Word) : (s.presetReg i v).diag = s.diag := rfl
@[simp] theorem State.presetReg_stage (s : State) (i : RegIdx) (v : Word) : (s.presetReg i v).stage = s.stage := rfl

@[simp] theorem State.placeInEx_cfg (s : State) (w : Word) : (s.placeInEx w).cfg = s.cfg := rfl
@[simp] theorem State.placeInEx_cur (s : State) (w : Word) : (s.placeInEx w).cur = s.cur := rfl
@[simp] theorem State.placeInEx_nxt (s : State) (w : Word) : (s.placeInEx w).nxt = s.nxt := rfl
@[simp] theorem State.placeInEx_ifid (s : State) (w : Word) : (s.placeInEx w).ifid = s.ifid := rfl
@[simp] theorem State.placeInEx_idex (s : State) (w : Word) : (s.placeInEx w).idex = ⟨w, idxWord (rsField w), idxWord (rtField w), if opcodeField w = 0#6 then s.idex.imm else sext32 (immField w)⟩ := rfl
@[simp] theorem State.placeInEx_exmem (s : State) (w : Word) : (s.placeInEx w).exmem = s.exmem := rfl
@[simp] theorem State.placeInEx_memwb (s : State) (w : Word) : (s.placeInEx w).memwb = s.memwb := rfl
@[simp] theorem State.placeInEx_mem (s : State) (w : Word) : (s.placeInEx w).mem = s.mem := rfl
@[simp] theorem State.placeInEx_running (s : State) (w : Word) : (s.placeInEx w).running = true := rfl
@[simp] theorem State.placeInEx_cycleCount (s : State) (w : Word) : (s.placeInEx w).cycleCount = s.cycleCount := rfl
@[simp] theorem State.placeInEx_instructionCount (s : State) (w : Word) : (s.placeInEx w).instructionCount = s.instructionCount := rfl
@[simp] theorem State.placeInEx_diag (s : State) (w : Word) : (s.placeInEx w).diag = s.diag := rfl
@[simp] theorem State.placeInEx_stage (s : State) (w : Word) : (s.placeInEx w).stage = s.stage := rfl

@[simp] theorem Arch.setReg_pc (g : Arch) (i : RegIdx) (v : Word) : (g.setReg i v).pc = g.pc := rfl
@[simp] theorem Arch.setReg_hi (g : Arch) (i : RegIdx) (v : Word) : (g.setReg i v).hi = g.hi := rfl
@[simp] theorem Arch.setReg_lo (g : Arch) (i : RegIdx) (v : Word) : (g.setReg i v).lo = g.lo := rfl

/-- Reading a register after a write: the value written there, the old value elsewhere, register 0 included (R23). -/
theorem Arch.reg_setReg (g : Arch) (i j : RegIdx) (v : Word) :
    (g.setReg i v).reg j = if j = i then v else g.reg j := by
  by_cases h : j = i
  · subst h; simp [Arch.reg, Arch.setReg]
  · have h' : i.toNat ≠ j.toNat := fun e => h (BitVec.eq_of_toNat_eq e.symm)
    simp [Arch.reg, Arch.setReg, h, h']

@[simp] theorem Arch.reg_setReg_self (g : Arch) (i : RegIdx) (v : Word) : (g.setReg i v).reg i = v := by
  simp [Arch.reg_setReg]

@[simp] theorem Arch.reg_initial (pc : Word) (i : RegIdx) : (Arch.initial pc).reg i = 0#32 := by
  simp [Arch.reg, Arch.initial]

/-- An operand read depends only on the parameters and the two generations. -/
theorem State.x_congr (s t : State) (i : RegIdx) (hc : t.cfg = s.cfg) (h1 : t.cur = s.cur) (h2 : t.nxt = s.nxt) :
    t.x i = s.x i := by
  simp [State.x, hc, h1, h2]

/-- The register number of a 32-bit latch field that was written from a register number (R33). -/
@[simp] theorem wordIdx_idxWord (r : RegIdx) : wordIdx (idxWord r) = r := by
  apply BitVec.eq_of_toNat_eq
  have := r.isLt
  simp [wordIdx, idxWord]

end Sys2Proof.Machine
end

