-- ==== Sys2Proof/Laws/Ops.lean ====
section
/-! SUPPORT. One lemma for each shared operation that says once all it can do; proofs cite it instead of unfolding it. -/

namespace Sys2Proof.Machine

/-! ### Outcomes -/

theorem andThen_next {o : Result} {f : State → Result} {t : State} :
    andThen o f = .next t ↔ ∃ s, o = .next s ∧ f s = .next t := by
  cases o <;> simp [andThen]

theorem andThen_fault {o : Result} {f : State → Result} {r : Fault} :
    andThen o f = .fault r ↔ o = .fault r ∨ ∃ s, o = .next s ∧ f s = .fault r := by
  cases o <;> simp [andThen]

theorem andThen_refused {o : Result} {f : State → Result} {r : Refusal} :
    andThen o f = .refused r ↔ o = .refused r ∨ ∃ s, o = .next s ∧ f s = .refused r := by
  cases o <;> simp [andThen]

@[simp] theorem andThen_of_next (s : State) (f : State → Result) : andThen (.next s) f = f s := rfl

theorem andThen_assoc (o : Result) (f g : State → Result) :
    andThen (andThen o f) g = andThen o fun s => andThen (f s) g := by
  cases o <;> rfl

/-! ### The arms of EX -/

theorem exAlu_next {v : State → Word} {s t : State} (h : exAlu v s = .next t) : t = s.setAlu (v s) := by
  simpa [exAlu] using h.symm

theorem exGuarded_next {rd : RegIdx} {arm : State → State} {s t : State} (h : exGuarded rd arm s = .next t) :
    (rd = 0#5 ∧ t = s) ∨ (rd ≠ 0#5 ∧ t = arm s) := by
  by_cases hr : rd = 0#5
  · left; rw [exGuarded, if_pos hr] at h; exact ⟨hr, by simpa using h.symm⟩
  · right; rw [exGuarded, if_neg hr] at h; exact ⟨hr, by simpa using h.symm⟩

theorem exAdd_next {s t : State} (h : exAdd s = .next t) :
    (s.cfg.addRtIndirect = false ∧ t = s.setAlu (s.opA + s.opB)) ∨
    (s.cfg.addRtIndirect = true ∧ s.opB.toNat < 32 ∧ t = s.setAlu (s.opA + s.x (wordIdx s.opB))) := by
  unfold exAdd at h
  split at h
  · rename_i hc
    split at h
    · rename_i hb
      exact .inr ⟨hc, hb, by simpa using h.symm⟩
    · cases h
  · rename_i hc
    exact .inl ⟨by simpa using hc, by simpa using h.symm⟩

theorem exDiv_next {signed : Bool} {s t : State} (h : exDiv signed s = .next t) :
    (s.opB = 0#32 ∧ t = s.emitDivByZero) ∨
    (s.opB ≠ 0#32 ∧ signed = true ∧ t = s.setAlu (s.opA.sdiv s.opB)) ∨
    (s.opB ≠ 0#32 ∧ signed = false ∧ t = s.setAlu (s.opA.udiv s.opB)) := by
  unfold exDiv at h
  split at h
  · rename_i h0
    exact .inl ⟨h0, by simpa using h.symm⟩
  · rename_i h0
    split at h
    · rename_i hs
      split at h
      · cases h
      · exact .inr (.inl ⟨h0, hs, by simpa using h.symm⟩)
    · rename_i hs
      exact .inr (.inr ⟨h0, by simpa using hs, by simpa using h.symm⟩)

theorem exSyscall_next {s t : State} (h : exSyscall s = .next t) :
    (s.x 2#5 = haltCode ∧ t = s.halt) ∨ (s.x 2#5 ≠ haltCode ∧ t = s) := by
  by_cases hx : s.x 2#5 = haltCode
  · left; rw [exSyscall, if_pos hx] at h; exact ⟨hx, by simpa using h.symm⟩
  · right; rw [exSyscall, if_neg hx] at h; exact ⟨hx, by simpa using h.symm⟩

theorem exCatchAll_next {s t : State} (h : exCatchAll s = .next t) :
    t = (s.setAlu s.effectiveAddr).setStoreValue s.opB := by
  simpa [exCatchAll] using h.symm

/-! ### The arms of MEM and WB, and IF -/

theorem memPass_next {s t : State} (h : memPass s = .next t) :
    t = { s with memwb := ⟨s.exmem.ir, s.exmem.aluOutput, s.memwb.lmd⟩ } := by
  simpa [memPass, State.memIr] using h.symm

theorem memLoad_next {s t : State} (h : memLoad s = .next t) :
    ∃ v, read32 s.cfg.regions s.mem s.exmem.aluOutput = some v ∧
      t = { s with memwb := ⟨s.exmem.ir, s.memwb.aluOutput, v⟩ } := by
  unfold memLoad at h
  split at h
  · rename_i v hv
    exact ⟨v, hv, by simpa [State.memIr] using h.symm⟩
  · cases h

theorem memStore_next {s t : State} (h : memStore s = .next t) :
    ∃ m, write32 s.cfg.regions s.mem s.exmem.aluOutput s.exmem.b = some m ∧
      t = { s with memwb := ⟨s.exmem.ir, s.memwb.aluOutput, s.memwb.lmd⟩, mem := m } := by
  unfold memStore at h
  split at h
  · rename_i m hm
    exact ⟨m, hm, by simpa [State.memIr] using h.symm⟩
  · cases h

theorem wbWrite_next {dest : RegIdx} {v : Word} {s t : State} (h : wbWrite dest v s = .next t) :
    t = { s with nxt := s.nxt.setReg dest v, instructionCount := s.instructionCount + 1 } := by
  simpa [wbWrite] using h.symm

theorem ifPhase_next {s t : State} (h : ifPhase s = .next t) :
    ∃ w, read32 s.cfg.regions s.mem s.nxt.pc = some w ∧
      t = { s with ifid := ⟨w, s.nxt.pc⟩, nxt := ⟨s.nxt.pc + 4, s.nxt.regs, s.nxt.hi, s.nxt.lo⟩ } := by
  unfold ifPhase at h
  split at h
  · rename_i w hw
    exact ⟨w, hw, by simpa [State.bumpPc] using h.symm⟩
  · cases h

/-! ### The paths -/

theorem rTypePath_next {ex : State → Result} {rs rt rd : RegIdx} {s t : State}
    (h : rTypePath ex rs rt rd s = .next t) :
    (s.stage = .id ∧ t = s.idRType rs rt) ∨ (s.stage = .ex ∧ ex s.exIr = .next t) ∨
    (s.stage = .mem ∧ memPass s = .next t) ∨ (s.stage = .wb ∧ wbAlu rd s = .next t) := by
  unfold rTypePath at h
  split at h <;> rename_i e <;> simp_all

theorem immPath_next {v : State → Word} {rs rt : RegIdx} {imm : Half} {s t : State}
    (h : immPath v rs rt imm s = .next t) :
    (s.stage = .id ∧ t = s.idIType rs rt imm) ∨ (s.stage = .ex ∧ exAlu v s.exIr = .next t) ∨
    (s.stage = .mem ∧ memPass s = .next t) ∨ (s.stage = .wb ∧ wbAlu rt s = .next t) := by
  unfold immPath at h
  split at h <;> rename_i e <;> simp_all

theorem loadPath_next {rs rt : RegIdx} {imm : Half} {s t : State} (h : loadPath rs rt imm s = .next t) :
    (s.stage = .id ∧ t = s.idIType rs rt imm) ∨ (s.stage = .ex ∧ exCatchAll s.exIr = .next t) ∨
    (s.stage = .mem ∧ memLoad s = .next t) ∨ (s.stage = .wb ∧ wbLoad rt s = .next t) := by
  unfold loadPath at h
  split at h <;> rename_i e <;> simp_all

theorem storePath_next {rs rt : RegIdx} {imm : Half} {s t : State} (h : storePath rs rt imm s = .next t) :
    (s.stage = .id ∧ t = s.idIType rs rt imm) ∨ (s.stage = .ex ∧ exCatchAll s.exIr = .next t) ∨
    (s.stage = .mem ∧ memStore s = .next t) ∨ (s.stage = .wb ∧ wbAlu rt s = .next t) := by
  unfold storePath at h
  split at h <;> rename_i e <;> simp_all

theorem otherPath_next {rs rt : RegIdx} {imm : Half} {s t : State} (h : otherPath rs rt imm s = .next t) :
    (s.stage = .id ∧ t = s.idIType rs rt imm) ∨ (s.stage = .ex ∧ exCatchAll s.exIr = .next t) ∨
    (s.stage = .mem ∧ memPass s = .next t) ∨ (s.stage = .wb ∧ wbAlu rt s = .next t) := by
  unfold otherPath at h
  split at h <;> rename_i e <;> simp_all

/-! ### Reset -/

/-- What the loader answers when no word straddles: the writes, and the length of the program (R250). -/
theorem loadProgram_ok {cfg : Config} {m : Memory} {ws : List Word} {l : Loaded} (h : loadProgram cfg m ws = .ok l) :
    load cfg.regions m cfg.textBase ws = .ok l.mem ∧ l.wordCount = ws.length := by
  unfold loadProgram at h
  split at h
  · rename_i m' hm
    cases h
    exact ⟨hm, rfl⟩
  · cases h

/-- The loader stops at the address at which its writes do (R64, D21). -/
theorem loadProgram_error {cfg : Config} {m : Memory} {ws : List Word} {a : Word} :
    loadProgram cfg m ws = .error a ↔ load cfg.regions m cfg.textBase ws = .error a := by
  unfold loadProgram
  split <;> rename_i h <;> simp [h]

/-- What reset answers when it builds a state: the blank state with the loaded memory (R330). -/
theorem resetWith_next {cfg : Config} {p : Option (List Word)} {t : State} (h : State.resetWith cfg p = .next t) :
    ∃ ws m, p = some ws ∧ load cfg.regions [] cfg.textBase ws = .ok m ∧ t = { State.blank cfg with mem := m } := by
  unfold State.resetWith at h
  split at h
  · cases h
  · rename_i ws
    split at h
    · rename_i l hl
      obtain ⟨hm, -⟩ := loadProgram_ok hl
      exact ⟨ws, l.mem, rfl, hm, by simpa using h.symm⟩
    · cases h

end Sys2Proof.Machine
end

