-- ==== Sys2Proof/Laws/Cycle.lean ====
section
/-! SUPPORT. What a cycle, a step, a bounded run and a preset can answer; proofs cite these instead of unfolding. -/

namespace Sys2Proof.Machine

/-- A cycle that completes is its five stages, each of which answers a next state, and the commit (R245). -/
theorem cycle_next {s t : State} (h : cycle s = .next t) :
    ∃ s1 s2 s3 s4 s5, wbPhase s.beginCycle = .next s1 ∧ memPhase s1 = .next s2 ∧ exPhase s2 = .next s3 ∧
      idPhase s3 = .next s4 ∧ ifPhase s4 = .next s5 ∧ t = s5.commit := by
  simp only [cycle, cycleThroughEx, andThen_next] at h
  obtain ⟨s5, ⟨s4, ⟨s3, ⟨s2, ⟨s1, h1, h2⟩, h3⟩, h4⟩, h5⟩, h6⟩ := h
  exact ⟨s1, s2, s3, s4, s5, h1, h2, h3, h4, h5, by simpa using h6.symm⟩

/-- A step is nothing on a halted core and a cycle on a running one (R246). -/
theorem step_next {s t : State} (h : step s = .next t) :
    (s.running = false ∧ t = s) ∨ (s.running = true ∧ cycle s = .next t) := by
  unfold step clockEdge at h
  split at h
  · rename_i hr
    exact .inr ⟨hr, h⟩
  · rename_i hr
    exact .inl ⟨by simpa using hr, by simpa using h.symm⟩

/-- A step of a running core is a cycle (R246). -/
theorem step_running {s : State} (h : s.running = true) : step s = cycle s := by
  unfold step clockEdge
  rw [if_pos h]

/-- A bounded run of a running core starts with a step (R248). -/
theorem runCycles_running {s : State} (h : s.running = true) (n : Nat) :
    runCycles (n + 1) s = andThen (step s) (runCycles n) := by
  rw [runCycles, if_pos h, step_running h]

/-- A memory preset that answers a next state is `write32` (R252). -/
theorem presetMem_next {s t : State} {addr v : Word} (h : s.presetMem addr v = .next t) :
    ∃ m, write32 s.cfg.regions s.mem addr v = some m ∧ t = { s with mem := m } := by
  unfold State.presetMem at h
  split at h
  · rename_i m hm
    exact ⟨m, hm, by simpa using h.symm⟩
  · cases h

end Sys2Proof.Machine
end

