-- ==== Sys2Proof/Laws/Fields.lean ====
section
/-! SUPPORT. Each field of an R-format and of an I-format word is what was put there (R91, R92, R93). -/

namespace Sys2Proof

theorem toNat_rWord (rs rt rd : RegIdx) (sh : Shamt) (f : Code) : (rWord rs rt rd sh f).toNat =
    rs.toNat * 2 ^ 21 + rt.toNat * 2 ^ 16 + rd.toNat * 2 ^ 11 + sh.toNat * 2 ^ 6 + f.toNat := by
  have h1 := rs.isLt; have h2 := rt.isLt; have h3 := rd.isLt; have h4 := sh.isLt; have h5 := f.isLt
  simp only [rWord, BitVec.toNat_append]
  rw [← Nat.shiftLeft_add_eq_or_of_lt h5, ← Nat.shiftLeft_add_eq_or_of_lt h4, ← Nat.shiftLeft_add_eq_or_of_lt h3,
    ← Nat.shiftLeft_add_eq_or_of_lt h2, ← Nat.shiftLeft_add_eq_or_of_lt h1]
  simp only [Nat.shiftLeft_eq, BitVec.toNat_ofNat]
  omega

theorem toNat_iWord (op : Code) (rs rt : RegIdx) (imm : Half) : (iWord op rs rt imm).toNat =
    op.toNat * 2 ^ 26 + rs.toNat * 2 ^ 21 + rt.toNat * 2 ^ 16 + imm.toNat := by
  have h1 := rs.isLt; have h2 := rt.isLt; have h3 := imm.isLt; have h4 := op.isLt
  simp only [iWord, BitVec.toNat_append]
  rw [← Nat.shiftLeft_add_eq_or_of_lt h3, ← Nat.shiftLeft_add_eq_or_of_lt h2, ← Nat.shiftLeft_add_eq_or_of_lt h1]
  simp only [Nat.shiftLeft_eq]
  omega

section RFormat
variable (rs rt rd : RegIdx) (sh : Shamt) (f : Code)

@[simp] theorem opcodeField_rWord : opcodeField (rWord rs rt rd sh f) = 0#6 := by
  apply BitVec.eq_of_toNat_eq
  have h1 := rs.isLt; have h2 := rt.isLt; have h3 := rd.isLt; have h4 := sh.isLt; have h5 := f.isLt
  simp only [opcodeField, BitVec.extractLsb'_toNat, toNat_rWord, Nat.shiftRight_eq_div_pow, BitVec.toNat_ofNat]
  omega

@[simp] theorem rsField_rWord : rsField (rWord rs rt rd sh f) = rs := by
  apply BitVec.eq_of_toNat_eq
  have h1 := rs.isLt; have h2 := rt.isLt; have h3 := rd.isLt; have h4 := sh.isLt; have h5 := f.isLt
  simp only [rsField, BitVec.extractLsb'_toNat, toNat_rWord, Nat.shiftRight_eq_div_pow]
  omega

@[simp] theorem rtField_rWord : rtField (rWord rs rt rd sh f) = rt := by
  apply BitVec.eq_of_toNat_eq
  have h1 := rs.isLt; have h2 := rt.isLt; have h3 := rd.isLt; have h4 := sh.isLt; have h5 := f.isLt
  simp only [rtField, BitVec.extractLsb'_toNat, toNat_rWord, Nat.shiftRight_eq_div_pow]
  omega

@[simp] theorem rdField_rWord : rdField (rWord rs rt rd sh f) = rd := by
  apply BitVec.eq_of_toNat_eq
  have h1 := rs.isLt; have h2 := rt.isLt; have h3 := rd.isLt; have h4 := sh.isLt; have h5 := f.isLt
  simp only [rdField, BitVec.extractLsb'_toNat, toNat_rWord, Nat.shiftRight_eq_div_pow]
  omega

@[simp] theorem shamtField_rWord : shamtField (rWord rs rt rd sh f) = sh := by
  apply BitVec.eq_of_toNat_eq
  have h1 := rs.isLt; have h2 := rt.isLt; have h3 := rd.isLt; have h4 := sh.isLt; have h5 := f.isLt
  simp only [shamtField, BitVec.extractLsb'_toNat, toNat_rWord, Nat.shiftRight_eq_div_pow]
  omega

@[simp] theorem functField_rWord : functField (rWord rs rt rd sh f) = f := by
  apply BitVec.eq_of_toNat_eq
  have h1 := rs.isLt; have h2 := rt.isLt; have h3 := rd.isLt; have h4 := sh.isLt; have h5 := f.isLt
  simp only [functField, BitVec.extractLsb'_toNat, toNat_rWord, Nat.shiftRight_eq_div_pow]
  omega

end RFormat

section IFormat
variable (op : Code) (rs rt : RegIdx) (imm : Half)

@[simp] theorem opcodeField_iWord : opcodeField (iWord op rs rt imm) = op := by
  apply BitVec.eq_of_toNat_eq
  have h1 := rs.isLt; have h2 := rt.isLt; have h3 := imm.isLt; have h4 := op.isLt
  simp only [opcodeField, BitVec.extractLsb'_toNat, toNat_iWord, Nat.shiftRight_eq_div_pow]
  omega

@[simp] theorem rsField_iWord : rsField (iWord op rs rt imm) = rs := by
  apply BitVec.eq_of_toNat_eq
  have h1 := rs.isLt; have h2 := rt.isLt; have h3 := imm.isLt; have h4 := op.isLt
  simp only [rsField, BitVec.extractLsb'_toNat, toNat_iWord, Nat.shiftRight_eq_div_pow]
  omega

@[simp] theorem rtField_iWord : rtField (iWord op rs rt imm) = rt := by
  apply BitVec.eq_of_toNat_eq
  have h1 := rs.isLt; have h2 := rt.isLt; have h3 := imm.isLt; have h4 := op.isLt
  simp only [rtField, BitVec.extractLsb'_toNat, toNat_iWord, Nat.shiftRight_eq_div_pow]
  omega

@[simp] theorem immField_iWord : immField (iWord op rs rt imm) = imm := by
  apply BitVec.eq_of_toNat_eq
  have h1 := rs.isLt; have h2 := rt.isLt; have h3 := imm.isLt; have h4 := op.isLt
  simp only [immField, BitVec.extractLsb'_toNat, toNat_iWord, Nat.shiftRight_eq_div_pow]
  omega

end IFormat

/-! ### Decoding by fields -/

/-- An R-format word decodes by its funct code (R98). -/
theorem decodeWord_rWord (rs rt rd : RegIdx) (sh : Shamt) (f : Code) :
    decodeWord (rWord rs rt rd sh f) = decodeRType f rs rt rd sh := by
  simp [decodeWord]

/-- An I-format word with a nonzero opcode decodes by its opcode (R97, R99). -/
theorem decodeWord_iWord (op : Code) (rs rt : RegIdx) (imm : Half) (h : op ≠ 0#6) :
    decodeWord (iWord op rs rt imm) = decodeIType op rs rt imm := by
  simp [decodeWord, h]

/-- A word with opcode 0 is the R-format word of its fields (R92). -/
theorem rWord_of_fields (w : Word) (h : opcodeField w = 0#6) :
    rWord (rsField w) (rtField w) (rdField w) (shamtField w) (functField w) = w := by
  apply BitVec.eq_of_toNat_eq
  have h0 := congrArg BitVec.toNat h
  have hw := w.isLt
  simp only [opcodeField, BitVec.extractLsb'_toNat, Nat.shiftRight_eq_div_pow, BitVec.toNat_ofNat] at h0
  rw [toNat_rWord]
  simp only [rsField, rtField, rdField, shamtField, functField, BitVec.extractLsb'_toNat, Nat.shiftRight_eq_div_pow]
  omega

/-- Every word is the I-format word of its fields (R93). -/
theorem iWord_of_fields (w : Word) : iWord (opcodeField w) (rsField w) (rtField w) (immField w) = w := by
  apply BitVec.eq_of_toNat_eq
  have hw := w.isLt
  rw [toNat_iWord]
  simp only [opcodeField, rsField, rtField, immField, BitVec.extractLsb'_toNat, Nat.shiftRight_eq_div_pow]
  omega

/-- A property of all 64 codes is shown code by code. -/
theorem forall_code (P : Code → Prop) (h : ∀ n : Fin 64, P (BitVec.ofFin n)) : ∀ c, P c := fun c => by
  simpa using h c.toFin

end Sys2Proof
end

