-- ==== Sys2Proof/Laws/PerInstr.lean ====
section
/-! SUPPORT. The family CodeFields: what the encoded word of each instruction says of its class (R97) and of the register it
writes in Writeback (R96). -/

namespace Sys2Proof.Laws.CodeFields

/-- The word has opcode 0 exactly when the instruction is R-TYPE, and the destination is the field `rd` of an opcode-0
word and the field `rt` of every other word. -/
def Statement (i : Instr) : Prop :=
  (opcodeField (encode i) = 0#6 ↔ i.cls = .rType) ∧
    i.dest = if i.cls = .rType then rdField (encode i) else rtField (encode i)

/-- An R-format word. -/
theorem of_rWord (i : Instr) (rs rt rd : RegIdx) (sh : Shamt) (f : Code) (he : encode i = rWord rs rt rd sh f)
    (hc : i.cls = .rType) (hd : i.dest = rd) : Statement i := by
  simp [Statement, he, hc, hd]

/-- An I-format word. -/
theorem of_iWord (i : Instr) (op : Code) (rs rt : RegIdx) (imm : Half) (he : encode i = iWord op rs rt imm)
    (hop : op ≠ 0#6) (hc : i.cls ≠ .rType) (hd : i.dest = rt) : Statement i := by
  simp [Statement, he, hc, hd, hop]

theorem add (rs rt rd : RegIdx) (sh : Shamt) : Statement (.add rs rt rd sh) :=
  of_rWord _ rs rt rd sh 0x20#6 rfl rfl rfl
theorem addu (rs rt rd : RegIdx) (sh : Shamt) : Statement (.addu rs rt rd sh) :=
  of_rWord _ rs rt rd sh 0x21#6 rfl rfl rfl
theorem sub (rs rt rd : RegIdx) (sh : Shamt) : Statement (.sub rs rt rd sh) :=
  of_rWord _ rs rt rd sh 0x22#6 rfl rfl rfl
theorem subu (rs rt rd : RegIdx) (sh : Shamt) : Statement (.subu rs rt rd sh) :=
  of_rWord _ rs rt rd sh 0x23#6 rfl rfl rfl
theorem and (rs rt rd : RegIdx) (sh : Shamt) : Statement (.and rs rt rd sh) :=
  of_rWord _ rs rt rd sh 0x24#6 rfl rfl rfl
theorem or (rs rt rd : RegIdx) (sh : Shamt) : Statement (.or rs rt rd sh) :=
  of_rWord _ rs rt rd sh 0x25#6 rfl rfl rfl
theorem xor (rs rt rd : RegIdx) (sh : Shamt) : Statement (.xor rs rt rd sh) :=
  of_rWord _ rs rt rd sh 0x26#6 rfl rfl rfl
theorem nor (rs rt rd : RegIdx) (sh : Shamt) : Statement (.nor rs rt rd sh) :=
  of_rWord _ rs rt rd sh 0x27#6 rfl rfl rfl
theorem slt (rs rt rd : RegIdx) (sh : Shamt) : Statement (.slt rs rt rd sh) :=
  of_rWord _ rs rt rd sh 0x2a#6 rfl rfl rfl
theorem sltu (rs rt rd : RegIdx) (sh : Shamt) : Statement (.sltu rs rt rd sh) :=
  of_rWord _ rs rt rd sh 0x2b#6 rfl rfl rfl
theorem sll (rs rt rd : RegIdx) (sh : Shamt) : Statement (.sll rs rt rd sh) :=
  of_rWord _ rs rt rd sh 0x00#6 rfl rfl rfl
theorem srl (rs rt rd : RegIdx) (sh : Shamt) : Statement (.srl rs rt rd sh) :=
  of_rWord _ rs rt rd sh 0x02#6 rfl rfl rfl
theorem sra (rs rt rd : RegIdx) (sh : Shamt) : Statement (.sra rs rt rd sh) :=
  of_rWord _ rs rt rd sh 0x03#6 rfl rfl rfl
theorem mult (rs rt rd : RegIdx) (sh : Shamt) : Statement (.mult rs rt rd sh) :=
  of_rWord _ rs rt rd sh 0x18#6 rfl rfl rfl
theorem multu (rs rt rd : RegIdx) (sh : Shamt) : Statement (.multu rs rt rd sh) :=
  of_rWord _ rs rt rd sh 0x19#6 rfl rfl rfl
theorem div (rs rt rd : RegIdx) (sh : Shamt) : Statement (.div rs rt rd sh) :=
  of_rWord _ rs rt rd sh 0x1a#6 rfl rfl rfl
theorem divu (rs rt rd : RegIdx) (sh : Shamt) : Statement (.divu rs rt rd sh) :=
  of_rWord _ rs rt rd sh 0x1b#6 rfl rfl rfl
theorem syscall (rs rt rd : RegIdx) (sh : Shamt) : Statement (.syscall rs rt rd sh) :=
  of_rWord _ rs rt rd sh 0x0c#6 rfl rfl rfl
theorem funct01 (rs rt rd : RegIdx) (sh : Shamt) : Statement (.funct01 rs rt rd sh) :=
  of_rWord _ rs rt rd sh 0x01#6 rfl rfl rfl
theorem funct04 (rs rt rd : RegIdx) (sh : Shamt) : Statement (.funct04 rs rt rd sh) :=
  of_rWord _ rs rt rd sh 0x04#6 rfl rfl rfl
theorem funct05 (rs rt rd : RegIdx) (sh : Shamt) : Statement (.funct05 rs rt rd sh) :=
  of_rWord _ rs rt rd sh 0x05#6 rfl rfl rfl
theorem funct06 (rs rt rd : RegIdx) (sh : Shamt) : Statement (.funct06 rs rt rd sh) :=
  of_rWord _ rs rt rd sh 0x06#6 rfl rfl rfl
theorem funct07 (rs rt rd : RegIdx) (sh : Shamt) : Statement (.funct07 rs rt rd sh) :=
  of_rWord _ rs rt rd sh 0x07#6 rfl rfl rfl
theorem funct08 (rs rt rd : RegIdx) (sh : Shamt) : Statement (.funct08 rs rt rd sh) :=
  of_rWord _ rs rt rd sh 0x08#6 rfl rfl rfl
theorem funct09 (rs rt rd : RegIdx) (sh : Shamt) : Statement (.funct09 rs rt rd sh) :=
  of_rWord _ rs rt rd sh 0x09#6 rfl rfl rfl
theorem funct0a (rs rt rd : RegIdx) (sh : Shamt) : Statement (.funct0a rs rt rd sh) :=
  of_rWord _ rs rt rd sh 0x0a#6 rfl rfl rfl
theorem funct0b (rs rt rd : RegIdx) (sh : Shamt) : Statement (.funct0b rs rt rd sh) :=
  of_rWord _ rs rt rd sh 0x0b#6 rfl rfl rfl
theorem funct0d (rs rt rd : RegIdx) (sh : Shamt) : Statement (.funct0d rs rt rd sh) :=
  of_rWord _ rs rt rd sh 0x0d#6 rfl rfl rfl
theorem funct0e (rs rt rd : RegIdx) (sh : Shamt) : Statement (.funct0e rs rt rd sh) :=
  of_rWord _ rs rt rd sh 0x0e#6 rfl rfl rfl
theorem funct0f (rs rt rd : RegIdx) (sh : Shamt) : Statement (.funct0f rs rt rd sh) :=
  of_rWord _ rs rt rd sh 0x0f#6 rfl rfl rfl
theorem funct10 (rs rt rd : RegIdx) (sh : Shamt) : Statement (.funct10 rs rt rd sh) :=
  of_rWord _ rs rt rd sh 0x10#6 rfl rfl rfl
theorem funct11 (rs rt rd : RegIdx) (sh : Shamt) : Statement (.funct11 rs rt rd sh) :=
  of_rWord _ rs rt rd sh 0x11#6 rfl rfl rfl
theorem funct12 (rs rt rd : RegIdx) (sh : Shamt) : Statement (.funct12 rs rt rd sh) :=
  of_rWord _ rs rt rd sh 0x12#6 rfl rfl rfl
theorem funct13 (rs rt rd : RegIdx) (sh : Shamt) : Statement (.funct13 rs rt rd sh) :=
  of_rWord _ rs rt rd sh 0x13#6 rfl rfl rfl
theorem funct14 (rs rt rd : RegIdx) (sh : Shamt) : Statement (.funct14 rs rt rd sh) :=
  of_rWord _ rs rt rd sh 0x14#6 rfl rfl rfl
theorem funct15 (rs rt rd : RegIdx) (sh : Shamt) : Statement (.funct15 rs rt rd sh) :=
  of_rWord _ rs rt rd sh 0x15#6 rfl rfl rfl
theorem funct16 (rs rt rd : RegIdx) (sh : Shamt) : Statement (.funct16 rs rt rd sh) :=
  of_rWord _ rs rt rd sh 0x16#6 rfl rfl rfl
theorem funct17 (rs rt rd : RegIdx) (sh : Shamt) : Statement (.funct17 rs rt rd sh) :=
  of_rWord _ rs rt rd sh 0x17#6 rfl rfl rfl
theorem funct1c (rs rt rd : RegIdx) (sh : Shamt) : Statement (.funct1c rs rt rd sh) :=
  of_rWord _ rs rt rd sh 0x1c#6 rfl rfl rfl
theorem funct1d (rs rt rd : RegIdx) (sh : Shamt) : Statement (.funct1d rs rt rd sh) :=
  of_rWord _ rs rt rd sh 0x1d#6 rfl rfl rfl
theorem funct1e (rs rt rd : RegIdx) (sh : Shamt) : Statement (.funct1e rs rt rd sh) :=
  of_rWord _ rs rt rd sh 0x1e#6 rfl rfl rfl
theorem funct1f (rs rt rd : RegIdx) (sh : Shamt) : Statement (.funct1f rs rt rd sh) :=
  of_rWord _ rs rt rd sh 0x1f#6 rfl rfl rfl
theorem funct28 (rs rt rd : RegIdx) (sh : Shamt) : Statement (.funct28 rs rt rd sh) :=
  of_rWord _ rs rt rd sh 0x28#6 rfl rfl rfl
theorem funct29 (rs rt rd : RegIdx) (sh : Shamt) : Statement (.funct29 rs rt rd sh) :=
  of_rWord _ rs rt rd sh 0x29#6 rfl rfl rfl
theorem funct2c (rs rt rd : RegIdx) (sh : Shamt) : Statement (.funct2c rs rt rd sh) :=
  of_rWord _ rs rt rd sh 0x2c#6 rfl rfl rfl
theorem funct2d (rs rt rd : RegIdx) (sh : Shamt) : Statement (.funct2d rs rt rd sh) :=
  of_rWord _ rs rt rd sh 0x2d#6 rfl rfl rfl
theorem funct2e (rs rt rd : RegIdx) (sh : Shamt) : Statement (.funct2e rs rt rd sh) :=
  of_rWord _ rs rt rd sh 0x2e#6 rfl rfl rfl
theorem funct2f (rs rt rd : RegIdx) (sh : Shamt) : Statement (.funct2f rs rt rd sh) :=
  of_rWord _ rs rt rd sh 0x2f#6 rfl rfl rfl
theorem funct30 (rs rt rd : RegIdx) (sh : Shamt) : Statement (.funct30 rs rt rd sh) :=
  of_rWord _ rs rt rd sh 0x30#6 rfl rfl rfl
theorem funct31 (rs rt rd : RegIdx) (sh : Shamt) : Statement (.funct31 rs rt rd sh) :=
  of_rWord _ rs rt rd sh 0x31#6 rfl rfl rfl
theorem funct32 (rs rt rd : RegIdx) (sh : Shamt) : Statement (.funct32 rs rt rd sh) :=
  of_rWord _ rs rt rd sh 0x32#6 rfl rfl rfl
theorem funct33 (rs rt rd : RegIdx) (sh : Shamt) : Statement (.funct33 rs rt rd sh) :=
  of_rWord _ rs rt rd sh 0x33#6 rfl rfl rfl
theorem funct34 (rs rt rd : RegIdx) (sh : Shamt) : Statement (.funct34 rs rt rd sh) :=
  of_rWord _ rs rt rd sh 0x34#6 rfl rfl rfl
theorem funct35 (rs rt rd : RegIdx) (sh : Shamt) : Statement (.funct35 rs rt rd sh) :=
  of_rWord _ rs rt rd sh 0x35#6 rfl rfl rfl
theorem funct36 (rs rt rd : RegIdx) (sh : Shamt) : Statement (.funct36 rs rt rd sh) :=
  of_rWord _ rs rt rd sh 0x36#6 rfl rfl rfl
theorem funct37 (rs rt rd : RegIdx) (sh : Shamt) : Statement (.funct37 rs rt rd sh) :=
  of_rWord _ rs rt rd sh 0x37#6 rfl rfl rfl
theorem funct38 (rs rt rd : RegIdx) (sh : Shamt) : Statement (.funct38 rs rt rd sh) :=
  of_rWord _ rs rt rd sh 0x38#6 rfl rfl rfl
theorem funct39 (rs rt rd : RegIdx) (sh : Shamt) : Statement (.funct39 rs rt rd sh) :=
  of_rWord _ rs rt rd sh 0x39#6 rfl rfl rfl
theorem funct3a (rs rt rd : RegIdx) (sh : Shamt) : Statement (.funct3a rs rt rd sh) :=
  of_rWord _ rs rt rd sh 0x3a#6 rfl rfl rfl
theorem funct3b (rs rt rd : RegIdx) (sh : Shamt) : Statement (.funct3b rs rt rd sh) :=
  of_rWord _ rs rt rd sh 0x3b#6 rfl rfl rfl
theorem funct3c (rs rt rd : RegIdx) (sh : Shamt) : Statement (.funct3c rs rt rd sh) :=
  of_rWord _ rs rt rd sh 0x3c#6 rfl rfl rfl
theorem funct3d (rs rt rd : RegIdx) (sh : Shamt) : Statement (.funct3d rs rt rd sh) :=
  of_rWord _ rs rt rd sh 0x3d#6 rfl rfl rfl
theorem funct3e (rs rt rd : RegIdx) (sh : Shamt) : Statement (.funct3e rs rt rd sh) :=
  of_rWord _ rs rt rd sh 0x3e#6 rfl rfl rfl
theorem funct3f (rs rt rd : RegIdx) (sh : Shamt) : Statement (.funct3f rs rt rd sh) :=
  of_rWord _ rs rt rd sh 0x3f#6 rfl rfl rfl
theorem addi (rs rt : RegIdx) (imm : Half) : Statement (.addi rs rt imm) :=
  of_iWord _ 0x08#6 rs rt imm rfl (by decide) (fun h => nomatch h) rfl
theorem addiu (rs rt : RegIdx) (imm : Half) : Statement (.addiu rs rt imm) :=
  of_iWord _ 0x09#6 rs rt imm rfl (by decide) (fun h => nomatch h) rfl
theorem andi (rs rt : RegIdx) (imm : Half) : Statement (.andi rs rt imm) :=
  of_iWord _ 0x0c#6 rs rt imm rfl (by decide) (fun h => nomatch h) rfl
theorem ori (rs rt : RegIdx) (imm : Half) : Statement (.ori rs rt imm) :=
  of_iWord _ 0x0d#6 rs rt imm rfl (by decide) (fun h => nomatch h) rfl
theorem xori (rs rt : RegIdx) (imm : Half) : Statement (.xori rs rt imm) :=
  of_iWord _ 0x0e#6 rs rt imm rfl (by decide) (fun h => nomatch h) rfl
theorem lui (rs rt : RegIdx) (imm : Half) : Statement (.lui rs rt imm) :=
  of_iWord _ 0x0f#6 rs rt imm rfl (by decide) (fun h => nomatch h) rfl
theorem lb (rs rt : RegIdx) (imm : Half) : Statement (.lb rs rt imm) :=
  of_iWord _ 0x20#6 rs rt imm rfl (by decide) (fun h => nomatch h) rfl
theorem lh (rs rt : RegIdx) (imm : Half) : Statement (.lh rs rt imm) :=
  of_iWord _ 0x21#6 rs rt imm rfl (by decide) (fun h => nomatch h) rfl
theorem lw (rs rt : RegIdx) (imm : Half) : Statement (.lw rs rt imm) :=
  of_iWord _ 0x23#6 rs rt imm rfl (by decide) (fun h => nomatch h) rfl
theorem sb (rs rt : RegIdx) (imm : Half) : Statement (.sb rs rt imm) :=
  of_iWord _ 0x28#6 rs rt imm rfl (by decide) (fun h => nomatch h) rfl
theorem sh (rs rt : RegIdx) (imm : Half) : Statement (.sh rs rt imm) :=
  of_iWord _ 0x29#6 rs rt imm rfl (by decide) (fun h => nomatch h) rfl
theorem sw (rs rt : RegIdx) (imm : Half) : Statement (.sw rs rt imm) :=
  of_iWord _ 0x2b#6 rs rt imm rfl (by decide) (fun h => nomatch h) rfl
theorem opcode01 (rs rt : RegIdx) (imm : Half) : Statement (.opcode01 rs rt imm) :=
  of_iWord _ 0x01#6 rs rt imm rfl (by decide) (fun h => nomatch h) rfl
theorem opcode02 (rs rt : RegIdx) (imm : Half) : Statement (.opcode02 rs rt imm) :=
  of_iWord _ 0x02#6 rs rt imm rfl (by decide) (fun h => nomatch h) rfl
theorem opcode03 (rs rt : RegIdx) (imm : Half) : Statement (.opcode03 rs rt imm) :=
  of_iWord _ 0x03#6 rs rt imm rfl (by decide) (fun h => nomatch h) rfl
theorem opcode04 (rs rt : RegIdx) (imm : Half) : Statement (.opcode04 rs rt imm) :=
  of_iWord _ 0x04#6 rs rt imm rfl (by decide) (fun h => nomatch h) rfl
theorem opcode05 (rs rt : RegIdx) (imm : Half) : Statement (.opcode05 rs rt imm) :=
  of_iWord _ 0x05#6 rs rt imm rfl (by decide) (fun h => nomatch h) rfl
theorem opcode06 (rs rt : RegIdx) (imm : Half) : Statement (.opcode06 rs rt imm) :=
  of_iWord _ 0x06#6 rs rt imm rfl (by decide) (fun h => nomatch h) rfl
theorem opcode07 (rs rt : RegIdx) (imm : Half) : Statement (.opcode07 rs rt imm) :=
  of_iWord _ 0x07#6 rs rt imm rfl (by decide) (fun h => nomatch h) rfl
theorem opcode0a (rs rt : RegIdx) (imm : Half) : Statement (.opcode0a rs rt imm) :=
  of_iWord _ 0x0a#6 rs rt imm rfl (by decide) (fun h => nomatch h) rfl
theorem opcode0b (rs rt : RegIdx) (imm : Half) : Statement (.opcode0b rs rt imm) :=
  of_iWord _ 0x0b#6 rs rt imm rfl (by decide) (fun h => nomatch h) rfl
theorem opcode10 (rs rt : RegIdx) (imm : Half) : Statement (.opcode10 rs rt imm) :=
  of_iWord _ 0x10#6 rs rt imm rfl (by decide) (fun h => nomatch h) rfl
theorem opcode11 (rs rt : RegIdx) (imm : Half) : Statement (.opcode11 rs rt imm) :=
  of_iWord _ 0x11#6 rs rt imm rfl (by decide) (fun h => nomatch h) rfl
theorem opcode12 (rs rt : RegIdx) (imm : Half) : Statement (.opcode12 rs rt imm) :=
  of_iWord _ 0x12#6 rs rt imm rfl (by decide) (fun h => nomatch h) rfl
theorem opcode13 (rs rt : RegIdx) (imm : Half) : Statement (.opcode13 rs rt imm) :=
  of_iWord _ 0x13#6 rs rt imm rfl (by decide) (fun h => nomatch h) rfl
theorem opcode14 (rs rt : RegIdx) (imm : Half) : Statement (.opcode14 rs rt imm) :=
  of_iWord _ 0x14#6 rs rt imm rfl (by decide) (fun h => nomatch h) rfl
theorem opcode15 (rs rt : RegIdx) (imm : Half) : Statement (.opcode15 rs rt imm) :=
  of_iWord _ 0x15#6 rs rt imm rfl (by decide) (fun h => nomatch h) rfl
theorem opcode16 (rs rt : RegIdx) (imm : Half) : Statement (.opcode16 rs rt imm) :=
  of_iWord _ 0x16#6 rs rt imm rfl (by decide) (fun h => nomatch h) rfl
theorem opcode17 (rs rt : RegIdx) (imm : Half) : Statement (.opcode17 rs rt imm) :=
  of_iWord _ 0x17#6 rs rt imm rfl (by decide) (fun h => nomatch h) rfl
theorem opcode18 (rs rt : RegIdx) (imm : Half) : Statement (.opcode18 rs rt imm) :=
  of_iWord _ 0x18#6 rs rt imm rfl (by decide) (fun h => nomatch h) rfl
theorem opcode19 (rs rt : RegIdx) (imm : Half) : Statement (.opcode19 rs rt imm) :=
  of_iWord _ 0x19#6 rs rt imm rfl (by decide) (fun h => nomatch h) rfl
theorem opcode1a (rs rt : RegIdx) (imm : Half) : Statement (.opcode1a rs rt imm) :=
  of_iWord _ 0x1a#6 rs rt imm rfl (by decide) (fun h => nomatch h) rfl
theorem opcode1b (rs rt : RegIdx) (imm : Half) : Statement (.opcode1b rs rt imm) :=
  of_iWord _ 0x1b#6 rs rt imm rfl (by decide) (fun h => nomatch h) rfl
theorem opcode1c (rs rt : RegIdx) (imm : Half) : Statement (.opcode1c rs rt imm) :=
  of_iWord _ 0x1c#6 rs rt imm rfl (by decide) (fun h => nomatch h) rfl
theorem opcode1d (rs rt : RegIdx) (imm : Half) : Statement (.opcode1d rs rt imm) :=
  of_iWord _ 0x1d#6 rs rt imm rfl (by decide) (fun h => nomatch h) rfl
theorem opcode1e (rs rt : RegIdx) (imm : Half) : Statement (.opcode1e rs rt imm) :=
  of_iWord _ 0x1e#6 rs rt imm rfl (by decide) (fun h => nomatch h) rfl
theorem opcode1f (rs rt : RegIdx) (imm : Half) : Statement (.opcode1f rs rt imm) :=
  of_iWord _ 0x1f#6 rs rt imm rfl (by decide) (fun h => nomatch h) rfl
theorem opcode22 (rs rt : RegIdx) (imm : Half) : Statement (.opcode22 rs rt imm) :=
  of_iWord _ 0x22#6 rs rt imm rfl (by decide) (fun h => nomatch h) rfl
theorem opcode24 (rs rt : RegIdx) (imm : Half) : Statement (.opcode24 rs rt imm) :=
  of_iWord _ 0x24#6 rs rt imm rfl (by decide) (fun h => nomatch h) rfl
theorem opcode25 (rs rt : RegIdx) (imm : Half) : Statement (.opcode25 rs rt imm) :=
  of_iWord _ 0x25#6 rs rt imm rfl (by decide) (fun h => nomatch h) rfl
theorem opcode26 (rs rt : RegIdx) (imm : Half) : Statement (.opcode26 rs rt imm) :=
  of_iWord _ 0x26#6 rs rt imm rfl (by decide) (fun h => nomatch h) rfl
theorem opcode27 (rs rt : RegIdx) (imm : Half) : Statement (.opcode27 rs rt imm) :=
  of_iWord _ 0x27#6 rs rt imm rfl (by decide) (fun h => nomatch h) rfl
theorem opcode2a (rs rt : RegIdx) (imm : Half) : Statement (.opcode2a rs rt imm) :=
  of_iWord _ 0x2a#6 rs rt imm rfl (by decide) (fun h => nomatch h) rfl
theorem opcode2c (rs rt : RegIdx) (imm : Half) : Statement (.opcode2c rs rt imm) :=
  of_iWord _ 0x2c#6 rs rt imm rfl (by decide) (fun h => nomatch h) rfl
theorem opcode2d (rs rt : RegIdx) (imm : Half) : Statement (.opcode2d rs rt imm) :=
  of_iWord _ 0x2d#6 rs rt imm rfl (by decide) (fun h => nomatch h) rfl
theorem opcode2e (rs rt : RegIdx) (imm : Half) : Statement (.opcode2e rs rt imm) :=
  of_iWord _ 0x2e#6 rs rt imm rfl (by decide) (fun h => nomatch h) rfl
theorem opcode2f (rs rt : RegIdx) (imm : Half) : Statement (.opcode2f rs rt imm) :=
  of_iWord _ 0x2f#6 rs rt imm rfl (by decide) (fun h => nomatch h) rfl
theorem opcode30 (rs rt : RegIdx) (imm : Half) : Statement (.opcode30 rs rt imm) :=
  of_iWord _ 0x30#6 rs rt imm rfl (by decide) (fun h => nomatch h) rfl
theorem opcode31 (rs rt : RegIdx) (imm : Half) : Statement (.opcode31 rs rt imm) :=
  of_iWord _ 0x31#6 rs rt imm rfl (by decide) (fun h => nomatch h) rfl
theorem opcode32 (rs rt : RegIdx) (imm : Half) : Statement (.opcode32 rs rt imm) :=
  of_iWord _ 0x32#6 rs rt imm rfl (by decide) (fun h => nomatch h) rfl
theorem opcode33 (rs rt : RegIdx) (imm : Half) : Statement (.opcode33 rs rt imm) :=
  of_iWord _ 0x33#6 rs rt imm rfl (by decide) (fun h => nomatch h) rfl
theorem opcode34 (rs rt : RegIdx) (imm : Half) : Statement (.opcode34 rs rt imm) :=
  of_iWord _ 0x34#6 rs rt imm rfl (by decide) (fun h => nomatch h) rfl
theorem opcode35 (rs rt : RegIdx) (imm : Half) : Statement (.opcode35 rs rt imm) :=
  of_iWord _ 0x35#6 rs rt imm rfl (by decide) (fun h => nomatch h) rfl
theorem opcode36 (rs rt : RegIdx) (imm : Half) : Statement (.opcode36 rs rt imm) :=
  of_iWord _ 0x36#6 rs rt imm rfl (by decide) (fun h => nomatch h) rfl
theorem opcode37 (rs rt : RegIdx) (imm : Half) : Statement (.opcode37 rs rt imm) :=
  of_iWord _ 0x37#6 rs rt imm rfl (by decide) (fun h => nomatch h) rfl
theorem opcode38 (rs rt : RegIdx) (imm : Half) : Statement (.opcode38 rs rt imm) :=
  of_iWord _ 0x38#6 rs rt imm rfl (by decide) (fun h => nomatch h) rfl
theorem opcode39 (rs rt : RegIdx) (imm : Half) : Statement (.opcode39 rs rt imm) :=
  of_iWord _ 0x39#6 rs rt imm rfl (by decide) (fun h => nomatch h) rfl
theorem opcode3a (rs rt : RegIdx) (imm : Half) : Statement (.opcode3a rs rt imm) :=
  of_iWord _ 0x3a#6 rs rt imm rfl (by decide) (fun h => nomatch h) rfl
theorem opcode3b (rs rt : RegIdx) (imm : Half) : Statement (.opcode3b rs rt imm) :=
  of_iWord _ 0x3b#6 rs rt imm rfl (by decide) (fun h => nomatch h) rfl
theorem opcode3c (rs rt : RegIdx) (imm : Half) : Statement (.opcode3c rs rt imm) :=
  of_iWord _ 0x3c#6 rs rt imm rfl (by decide) (fun h => nomatch h) rfl
theorem opcode3d (rs rt : RegIdx) (imm : Half) : Statement (.opcode3d rs rt imm) :=
  of_iWord _ 0x3d#6 rs rt imm rfl (by decide) (fun h => nomatch h) rfl
theorem opcode3e (rs rt : RegIdx) (imm : Half) : Statement (.opcode3e rs rt imm) :=
  of_iWord _ 0x3e#6 rs rt imm rfl (by decide) (fun h => nomatch h) rfl
theorem opcode3f (rs rt : RegIdx) (imm : Half) : Statement (.opcode3f rs rt imm) :=
  of_iWord _ 0x3f#6 rs rt imm rfl (by decide) (fun h => nomatch h) rfl

end Sys2Proof.Laws.CodeFields
end

