-- ==== Sys2Proof/Tests/Slice0.lean ====
section
/-! SUPPORT. Tests: well-formedness refuses ill-formed configurations; words written out from the encodings of
spec/30_encoding.md decode to their instructions; single steps give the results of the spec's examples (the rule or the vector of
spec/95_test_vectors.md is named); and a witness for each statement that has hypotheses. -/

namespace Sys2Proof.Tests
open Sys2Proof.Machine Sys2Proof.Statement

/-! ### Helpers -/

/-- Whether a step answers a next state. -/
def isNext : Result → Bool
  | .next _ => true
  | .fault _ => false
  | .refused _ => false

/-- The state an outcome answers, or the reset state. -/
def after : Result → State
  | .next t => t
  | .fault _ => State.reset
  | .refused _ => State.reset

/-- A running core whose step answers a next state. -/
def runs (s : State) : Bool := s.running && isNext (step s)

theorem next_after {o : Result} (h : isNext o = true) : o = .next (after o) := by
  cases o with
  | next t => rfl
  | fault r => cases h
  | refused r => cases h

theorem runs_next {s : State} (h : runs s = true) : s.running = true ∧ step s = .next (after (step s)) := by
  unfold runs at h
  rw [Bool.and_eq_true] at h
  exact ⟨h.1, next_after h.2⟩

/-- Registers 1 and 2 preset on the core after reset. -/
def preset (a b : Word) : State := (State.reset.presetReg 1 a).presetReg 2 b

/-- ALUOutput after the step in which the word `w` is in EX, registers 1 and 2 holding `a` and `b`. -/
def aluAfter (w : Nat) (a b : Word) : Word := (after (step ((preset a b).withFetchWord 32 w))).exmem.aluOutput

/-- A core with these words in MEM/WB, EX/MEM, ID/EX and IF/ID, the fields of ID/EX being those of its word, the data
address 0x10000000, and registers 1, 2 and 8 holding 5, 7 and 0x10000000. -/
def pipe (w m x d : Word) : State :=
  { ((preset 5 7).presetReg 8 0x10000000) with
    memwb := ⟨w, 0x55, 0x66⟩
    exmem := ⟨m, 0, 0x11223344, 0x10000000⟩
    idex := ⟨x, idxWord (rsField x), idxWord (rtField x), sext32 (immField x)⟩
    ifid := ⟨d, 0x00400000⟩
    mem := [(0x10000000, 0x05#8)] }

/-- The reference configuration with the given `OPERAND_READ_GEN`, `ADD_RT_INDIRECT` and `DIV_SIGNED`. -/
def cfgWith (g : OperandGen) (ind sgn : Bool) : Config :=
  { Config.reference with operandReadGen := g, addRtIndirect := ind, divSigned := sgn }

/-- `pipe` with `OPERAND_READ_GEN` = NEXT. -/
def pipeNext (w m x d : Word) : State := { pipe w m x d with cfg := cfgWith .nxt false false }

theorem pipe_inv (w m x d : Word) : (pipe w m x d).Inv where
  cfgOk := show Config.reference.wellFormed = true by decide
  memWf := rfl
  memMapped := show ∀ c ∈ [((0x10000000, 0x05#8) : Host.Cell)], ∃ r ∈ Config.reference.regions,
    r.beginAddr.toNat ≤ c.1 ∧ c.1 ≤ r.endAddr.toNat by decide
  nxtEqCur := rfl
  pcAligned := rfl
  hiLoZero := ⟨rfl, rfl⟩
  idexA := rfl
  idexB := rfl
  idexImm := fun _ => rfl
  exmemA := rfl
  counters := rfl
  stageWb := rfl

theorem pipeNext_inv (w m x d : Word) : (pipeNext w m x d).Inv :=
  { pipe_inv w m x d with cfgOk := show (cfgWith .nxt false false).wellFormed = true by decide }

/-! ### Well-formedness refuses what is ill-formed -/

theorem test_wf_reference : Config.reference.wellFormed = true := by decide

theorem test_wf_refuses_end_below_begin : (⟨.data, 0x10000001, 0x10000000⟩ : Region).wellFormed = false := by decide

theorem test_wf_refuses_overlap :
    regionsDisjoint [⟨.text, 0x1000, 0x1FFF⟩, ⟨.data, 0x1FFF, 0x2FFF⟩] = false := by decide

theorem test_wf_refuses_text_base : { Config.reference with textBase := 0x00400004 }.textBaseOk = false := by decide

theorem test_wf_refuses_base_of_data : { Config.reference with textBase := 0x10000000 }.wellFormed = false := by decide

theorem test_wf_refuses_config_with_bad_region :
    { Config.reference with regions := ⟨.stack, 0x200, 0x100⟩ :: Config.reference.regions }.wellFormed = false := by
  decide

theorem test_wf_refuses_config_with_overlap :
    { Config.reference with regions := ⟨.stack, 0x10000000, 0x10000000⟩ :: Config.reference.regions }.wellFormed =
      false := by decide

/-! ### Decoding: each constructor, from a word written out from its encoding

rs = 1, rt = 2, rd = 3, shamt = 4 in every R-format word (R92), rs = 1, rt = 2, imm16 = 0x8003 in every I-format word
(R93): no two fields are equal, so no two can be exchanged. -/

/-- One word of each class, bit by bit: R-TYPE, ADD-IMM, LOGIC-IMM, LOAD, STORE, OTHER, and an unlisted funct code. -/
theorem test_decode_bit_by_bit :
    decodeWord 0b00000000001000100001100100100010#32 = .sub 1 2 3 4 ∧
    decodeWord 0b00100000001000101000000000000011#32 = .addi 1 2 0x8003 ∧
    decodeWord 0b00111000001000101000000000000011#32 = .xori 1 2 0x8003 ∧
    decodeWord 0b10001100001000101000000000000011#32 = .lw 1 2 0x8003 ∧
    decodeWord 0b10101100001000101000000000000011#32 = .sw 1 2 0x8003 ∧
    decodeWord 0b00010000001000101000000000000011#32 = .opcode04 1 2 0x8003 ∧
    decodeWord 0b00000000001000100001100100001000#32 = .funct08 1 2 3 4 := by decide

/-- The bytes of `addi $2,$0,10`, least significant first (R65), and the table's numbering of the bits. -/
theorem test_decode_bytes :
    decode [0x0A, 0x00, 0x02, 0x20, 0xFF] = .ok (.addi 0 2 10, [0xFF]) ∧
    decode [0x0A, 0x00, 0x02] = .error (.truncated 3) ∧ decodeTableWord 32 0x2002000A = some (.addi 0 2 10) := by decide

/-- The 18 listed funct codes (R98). -/
theorem test_decode_listed_functs :
    [
      0x00221920, 0x00221921, 0x00221922, 0x00221923, 0x00221924, 0x00221925, 0x00221926, 0x00221927, 0x0022192A,
      0x0022192B, 0x00221900, 0x00221902, 0x00221903, 0x00221918, 0x00221919, 0x0022191A, 0x0022191B, 0x0022190C].map decodeWord = [
      .add 1 2 3 4, .addu 1 2 3 4, .sub 1 2 3 4, .subu 1 2 3 4, .and 1 2 3 4, .or 1 2 3 4, .xor 1 2 3 4,
      .nor 1 2 3 4, .slt 1 2 3 4, .sltu 1 2 3 4, .sll 1 2 3 4, .srl 1 2 3 4, .sra 1 2 3 4, .mult 1 2 3 4,
      .multu 1 2 3 4, .div 1 2 3 4, .divu 1 2 3 4, .syscall 1 2 3 4] := by decide

/-- The unlisted funct codes 0x01 to 0x1f (R98, R102). -/
theorem test_decode_unlisted_functs_low :
    [
      0x00221901, 0x00221904, 0x00221905, 0x00221906, 0x00221907, 0x00221908, 0x00221909, 0x0022190A, 0x0022190B,
      0x0022190D, 0x0022190E, 0x0022190F, 0x00221910, 0x00221911, 0x00221912, 0x00221913, 0x00221914, 0x00221915,
      0x00221916, 0x00221917, 0x0022191C, 0x0022191D, 0x0022191E, 0x0022191F].map decodeWord = [
      .funct01 1 2 3 4, .funct04 1 2 3 4, .funct05 1 2 3 4, .funct06 1 2 3 4, .funct07 1 2 3 4, .funct08 1 2 3 4,
      .funct09 1 2 3 4, .funct0a 1 2 3 4, .funct0b 1 2 3 4, .funct0d 1 2 3 4, .funct0e 1 2 3 4, .funct0f 1 2 3 4,
      .funct10 1 2 3 4, .funct11 1 2 3 4, .funct12 1 2 3 4, .funct13 1 2 3 4, .funct14 1 2 3 4, .funct15 1 2 3 4,
      .funct16 1 2 3 4, .funct17 1 2 3 4, .funct1c 1 2 3 4, .funct1d 1 2 3 4, .funct1e 1 2 3 4, .funct1f 1 2 3 4] := by decide

/-- The unlisted funct codes 0x28 to 0x3f (R98, R102). -/
theorem test_decode_unlisted_functs_high :
    [
      0x00221928, 0x00221929, 0x0022192C, 0x0022192D, 0x0022192E, 0x0022192F, 0x00221930, 0x00221931, 0x00221932,
      0x00221933, 0x00221934, 0x00221935, 0x00221936, 0x00221937, 0x00221938, 0x00221939, 0x0022193A, 0x0022193B,
      0x0022193C, 0x0022193D, 0x0022193E, 0x0022193F].map decodeWord = [
      .funct28 1 2 3 4, .funct29 1 2 3 4, .funct2c 1 2 3 4, .funct2d 1 2 3 4, .funct2e 1 2 3 4, .funct2f 1 2 3 4,
      .funct30 1 2 3 4, .funct31 1 2 3 4, .funct32 1 2 3 4, .funct33 1 2 3 4, .funct34 1 2 3 4, .funct35 1 2 3 4,
      .funct36 1 2 3 4, .funct37 1 2 3 4, .funct38 1 2 3 4, .funct39 1 2 3 4, .funct3a 1 2 3 4, .funct3b 1 2 3 4,
      .funct3c 1 2 3 4, .funct3d 1 2 3 4, .funct3e 1 2 3 4, .funct3f 1 2 3 4] := by decide

/-- The 12 listed nonzero opcodes (R97). -/
theorem test_decode_listed_opcodes :
    [
      0x20228003, 0x24228003, 0x30228003, 0x34228003, 0x38228003, 0x3C228003, 0x80228003, 0x84228003, 0x8C228003,
      0xA0228003, 0xA4228003, 0xAC228003].map decodeWord = [
      .addi 1 2 0x8003, .addiu 1 2 0x8003, .andi 1 2 0x8003, .ori 1 2 0x8003, .xori 1 2 0x8003, .lui 1 2 0x8003,
      .lb 1 2 0x8003, .lh 1 2 0x8003, .lw 1 2 0x8003, .sb 1 2 0x8003, .sh 1 2 0x8003, .sw 1 2 0x8003] := by decide

/-- The opcodes of the class OTHER up to 0x22 (R99). -/
theorem test_decode_other_opcodes_low :
    [
      0x04228003, 0x08228003, 0x0C228003, 0x10228003, 0x14228003, 0x18228003, 0x1C228003, 0x28228003, 0x2C228003,
      0x40228003, 0x44228003, 0x48228003, 0x4C228003, 0x50228003, 0x54228003, 0x58228003, 0x5C228003, 0x60228003,
      0x64228003, 0x68228003, 0x6C228003, 0x70228003, 0x74228003, 0x78228003, 0x7C228003, 0x88228003].map decodeWord = [
      .opcode01 1 2 0x8003, .opcode02 1 2 0x8003, .opcode03 1 2 0x8003, .opcode04 1 2 0x8003, .opcode05 1 2 0x8003,
      .opcode06 1 2 0x8003, .opcode07 1 2 0x8003, .opcode0a 1 2 0x8003, .opcode0b 1 2 0x8003, .opcode10 1 2 0x8003,
      .opcode11 1 2 0x8003, .opcode12 1 2 0x8003, .opcode13 1 2 0x8003, .opcode14 1 2 0x8003, .opcode15 1 2 0x8003,
      .opcode16 1 2 0x8003, .opcode17 1 2 0x8003, .opcode18 1 2 0x8003, .opcode19 1 2 0x8003, .opcode1a 1 2 0x8003,
      .opcode1b 1 2 0x8003, .opcode1c 1 2 0x8003, .opcode1d 1 2 0x8003, .opcode1e 1 2 0x8003, .opcode1f 1 2 0x8003,
      .opcode22 1 2 0x8003] := by decide

/-- The opcodes of the class OTHER from 0x24 on (R99). -/
theorem test_decode_other_opcodes_high :
    [
      0x90228003, 0x94228003, 0x98228003, 0x9C228003, 0xA8228003, 0xB0228003, 0xB4228003, 0xB8228003, 0xBC228003,
      0xC0228003, 0xC4228003, 0xC8228003, 0xCC228003, 0xD0228003, 0xD4228003, 0xD8228003, 0xDC228003, 0xE0228003,
      0xE4228003, 0xE8228003, 0xEC228003, 0xF0228003, 0xF4228003, 0xF8228003, 0xFC228003].map decodeWord = [
      .opcode24 1 2 0x8003, .opcode25 1 2 0x8003, .opcode26 1 2 0x8003, .opcode27 1 2 0x8003, .opcode2a 1 2 0x8003,
      .opcode2c 1 2 0x8003, .opcode2d 1 2 0x8003, .opcode2e 1 2 0x8003, .opcode2f 1 2 0x8003, .opcode30 1 2 0x8003,
      .opcode31 1 2 0x8003, .opcode32 1 2 0x8003, .opcode33 1 2 0x8003, .opcode34 1 2 0x8003, .opcode35 1 2 0x8003,
      .opcode36 1 2 0x8003, .opcode37 1 2 0x8003, .opcode38 1 2 0x8003, .opcode39 1 2 0x8003, .opcode3a 1 2 0x8003,
      .opcode3b 1 2 0x8003, .opcode3c 1 2 0x8003, .opcode3d 1 2 0x8003, .opcode3e 1 2 0x8003, .opcode3f 1 2 0x8003] := by decide

/-! ### One step of each instruction in EX, with the results of the rules' examples -/

theorem test_add_wraps : aluAfter 0x00221820 0x7FFFFFFF 1 = 0x80000000 := by decide

theorem test_addu_wraps : aluAfter 0x00221821 0xFFFFFFFF 1 = 0 := by decide

theorem test_addu_of_the_scenario : aluAfter 0x00221821 5 7 = 12 := by decide

theorem test_sub_wraps : aluAfter 0x00221822 0 1 = 0xFFFFFFFF := by decide

theorem test_subu : aluAfter 0x00221823 5 7 = 0xFFFFFFFE := by decide

theorem test_and : aluAfter 0x00221824 0xF0F0F0F0 0xFF00FF00 = 0xF000F000 := by decide

theorem test_or : aluAfter 0x00221825 0xF0F0F0F0 0x0F000000 = 0xFFF0F0F0 := by decide

theorem test_xor : aluAfter 0x00221826 0xFFFF0000 0x0F0F0F0F = 0xF0F00F0F := by decide

theorem test_nor : aluAfter 0x00221827 0xF0F0F0F0 0x0F000000 = 0x000F0F0F := by decide

theorem test_slt_is_signed : aluAfter 0x0022182A 0x80000000 0x7FFFFFFF = 1 := by decide

theorem test_sltu_is_unsigned : aluAfter 0x0022182B 0xFFFFFFFF 1 = 0 := by decide

theorem test_sltu_below : aluAfter 0x0022182B 0 0xFFFFFFFF = 1 := by decide

theorem test_sll : aluAfter 0x00021840 0 0x80000001 = 2 := by decide

theorem test_srl : aluAfter 0x00021FC2 0 0x80000000 = 1 := by decide

theorem test_sra : aluAfter 0x00021903 0 0xF0000000 = 0xFF000000 := by decide

theorem test_mult : aluAfter 0x00221818 0xFFFFFFFF 0xFFFFFFFF = 1 := by decide

theorem test_multu : aluAfter 0x00221819 0x80000000 2 = 0 := by decide

theorem test_div_is_unsigned : aluAfter 0x0022181A 0xFFFFFFF9 2 = 0x7FFFFFFC := by decide

theorem test_divu : aluAfter 0x0022181B 0xFFFFFFFF 0x10 = 0x0FFFFFFF := by decide

theorem test_addi_wraps : aluAfter 0x20230001 0x7FFFFFFF 0 = 0x80000000 := by decide

theorem test_addiu_sign_extends : aluAfter 0x2423FFF8 0x10000010 0 = 0x10000008 := by decide

theorem test_andi_zero_extends : aluAfter 0x30238000 0xFFFFFFFF 0 = 0x00008000 := by decide

theorem test_ori_zero_extends : aluAfter 0x3423FFFF 0 0 = 0x0000FFFF := by decide

theorem test_xori_zero_extends : aluAfter 0x3823FFFF 0xFFFFFFFF 0 = 0xFFFF0000 := by decide

theorem test_lui_computes_an_address : aluAfter 0x3C281000 4 0 = 0x00001004 := by decide

theorem test_lb_address : aluAfter 0x80230001 0x10000000 0 = 0x10000001 := by decide

theorem test_lh_address : aluAfter 0x84230000 0x10000000 0 = 0x10000000 := by decide

theorem test_lw_address_wraps : aluAfter 0x8C230008 0xFFFFFFFC 0 = 0x00000004 := by decide

theorem test_sb_address : aluAfter 0xA0230001 0x10000000 0 = 0x10000001 := by decide

theorem test_sh_address : aluAfter 0xA4230000 0x10000000 0 = 0x10000000 := by decide

theorem test_sw_address_wraps : aluAfter 0xAC23FFF8 0x00000004 0 = 0xFFFFFFFC := by decide

theorem test_beq_word_adds : aluAfter 0x1022FFFF 10 3 = 9 := by decide

theorem test_slti_word_adds : aluAfter 0x28230007 1 0 = 8 := by decide

/-- V3, R141: with `ADD_RT_INDIRECT`, the second operand is the register that `x[rt]` numbers. -/
theorem test_add_indirect :
    (after (step { ((preset 5 7).presetReg 7 100).withFetchWord 32 0x00221820 with
      cfg := cfgWith .cur true false })).exmem.aluOutput = 105 := by decide

/-- V30, R157: with `DIV_SIGNED`, -7 / 2 is -3. -/
theorem test_div_signed :
    (after (step { (preset 0xFFFFFFF9 2).withFetchWord 32 0x0022181A with
      cfg := cfgWith .cur false true })).exmem.aluOutput = 0xFFFFFFFD := by decide

/-- R157, R256: division by zero in cycle 1 holds ALUOutput and emits one event. -/
theorem test_div_by_zero :
    (after (step ((preset 7 0).withFetchWord 32 0x0022181A))).diag = [⟨1, .divByZero⟩] ∧
    aluAfter 0x0022181A 7 0 = 0 := by decide

/-- R151: a guarded arm with `rd` 0 holds ALUOutput. -/
theorem test_slt_guard :
    (after (step (pipe 0 0 0x0022002A 0))).exmem.aluOutput = 0x10000000 := by decide

/-- R160: an unlisted funct code writes only EX/MEM.IR. -/
theorem test_jr_word_does_nothing :
    (after (step (pipe 0 0 0x03E00008 0))).exmem = ⟨0x03E00008, 0, 0x11223344, 0x10000000⟩ := by decide

/-- R158: the whole word is compared with 10. -/
theorem test_syscall :
    (after (step ((preset 0 10).withFetchWord 32 0x0000000C))).running = false ∧
    (after (step ((preset 0 0x10A).withFetchWord 32 0x0000000C))).running = true := by decide

/-- R152, R123: an `sll` with `rd` not 0 in EX makes IF fetch 4 bytes further; with `rd` 0 it does not. -/
theorem test_sll_moves_the_fetch :
    (after (step (pipe 0 0 0x00084400 0))).ifid.pc = 0x00400004 ∧
    (after (step (pipe 0 0 0x00080400 0))).ifid.pc = 0x00400000 := by decide

/-- R205 to R208: each load takes the whole word. -/
theorem test_loads_take_the_word :
    [0x3C280000, 0x80280000, 0x84280000, 0x8C280000].map (fun w => (after (step (pipe 0 w 0 0))).memwb.lmd) =
      [5, 5, 5, 5] := by decide

/-- R209 to R211: each store writes four bytes, little-endian. -/
theorem test_stores_write_four_bytes :
    [0xA0280000, 0xA4280000, 0xAC280000].map (fun w => (after (step (pipe 0 w 0 0))).mem) =
      List.replicate 3 [(0x10000000, 0x44), (0x10000001, 0x33), (0x10000002, 0x22), (0x10000003, 0x11)] := by decide

/-- R221: `rd` gets ALUOutput, `rt` of a load LMD, `rt` of every other word ALUOutput; register 0 like the others (R222). -/
theorem test_writeback :
    (after (step (pipe 0x00221821 0 0 0))).cur.reg 3 = 0x55 ∧ (after (step (pipe 0x8C230000 0 0 0))).cur.reg 3 = 0x66 ∧
    (after (step (pipe 0xAC230000 0 0 0))).cur.reg 3 = 0x55 ∧ (after (step (pipe 0 0 0 0))).cur.reg 0 = 0x55 := by decide

/-- M1, M2: unaligned reads and writes. -/
theorem test_memory_vectors :
    read32 Config.reference.regions
      (setWord (setWord [] 0x10000000 0x11223344) 0x10000004 0x55667744) 0x10000001 = some 0x44112233 ∧
    wordAt (setWord [] 0x10000002 0xAABBCCDD) 0x10000000 = 0xCCDD0000 ∧
    wordAt (setWord [] 0x10000002 0xAABBCCDD) 0x10000004 = 0x0000AABB := by decide

/-- M3 to M7: the ends of the regions. -/
theorem test_memory_ends :
    read32 Config.reference.regions [] 0x7FFFFFFC = some 0 ∧ read32 Config.reference.regions [] 0x7FFFFFFD = none ∧
    read32 Config.reference.regions [] 0x004FFFFF = none ∧ read32 Config.reference.regions [] 0x00500000 = some 0 ∧
    write32 Config.reference.regions [] 0x0FFFFFFF 1 = some [] := by decide

/-! ### Witnesses: the hypotheses of each statement are met

`witness_X` is for `Obligations.X`. Where a statement has several cases, each case is met, at the ends of its range. -/

theorem witness_FunctSelectsTheOperation :
    (∀ f ∈ listedFuncts, opcodeField (rWord 1 2 3 4 f) = 0#6 ∧ functField (rWord 1 2 3 4 f) = f) ∧
    opcodeField 0x00221901 = 0#6 ∧ functField 0x00221901 ∉ listedFuncts := by decide

/-- Inside at the last four bytes of data, at an odd address, and unmapped at both sides of data. -/
theorem witness_WrittenWordIsReadBack :
    regionsDisjoint Config.reference.regions = true ∧ Memory.wf [(0x10000000, 5)] = true ∧
    (∃ r ∈ Config.reference.regions, r.beginAddr.toNat ≤ (0x100FFFFC#32).toNat ∧ (0x100FFFFC#32).toNat + 3 ≤ r.endAddr.toNat) ∧
    (∃ r ∈ Config.reference.regions, r.beginAddr.toNat ≤ (0x10000001#32).toNat ∧ (0x10000001#32).toNat + 3 ≤ r.endAddr.toNat) ∧
    (∀ r ∈ Config.reference.regions, ¬(r.beginAddr.toNat ≤ (0x0FFFFFFF#32).toNat ∧ (0x0FFFFFFF#32).toNat ≤ r.endAddr.toNat)) ∧
    (∀ r ∈ Config.reference.regions, ¬(r.beginAddr.toNat ≤ (0x10100000#32).toNat ∧ (0x10100000#32).toNat ≤ r.endAddr.toNat)) := by
  decide

theorem witness_WriteStoresFourLittleEndianBytes :
    regionsDisjoint Config.reference.regions = true ∧ Memory.wf [(0x10000000, 5)] = true ∧
    (⟨.data, 0x10000000, 0x100FFFFF⟩ : Region) ∈ Config.reference.regions ∧
    (0x10000000#32).toNat ≤ (0x100FFFFC#32).toNat ∧ (0x100FFFFC#32).toNat + 3 ≤ (0x100FFFFF#32).toNat := by decide

/-- The last address of each of the three cases. -/
theorem witness_OverlappingReadsAgree :
    regionsDisjoint Config.reference.regions = true ∧
    (⟨.data, 0x10000000, 0x100FFFFF⟩ : Region) ∈ Config.reference.regions ∧
    (0x10000000#32).toNat ≤ (0x100FFFF9#32).toNat ∧ (0x100FFFFB#32).toNat + 4 ≤ (0x100FFFFF#32).toNat ∧
    (0x100FFFFA#32).toNat + 5 ≤ (0x100FFFFF#32).toNat ∧ (0x100FFFF9#32).toNat + 6 ≤ (0x100FFFFF#32).toNat := by decide

/-- The data address and the fetch address at the first straddling address of data, with MEM under way. -/
def straddling : State :=
  { State.reset with stage := .mem, exmem := ⟨0x8C220000, 0, 7, 0x100FFFFD⟩, nxt := Arch.initial 0x100FFFFD }

/-- The first and the last of the three straddling addresses of data; a load and a store in MEM, and a fetch. -/
theorem witness_StraddlingAccessFaults :
    regionsDisjoint Config.reference.regions = true ∧
    (⟨.data, 0x10000000, 0x100FFFFF⟩ : Region) ∈ Config.reference.regions ∧
    (0x100FFFFF#32).toNat < (0x100FFFFD#32).toNat + 3 ∧ (0x100FFFFF#32).toNat ≤ (0x100FFFFF#32).toNat ∧
    (Instr.lw 1 2 0).cls = .load ∧ (Instr.sw 1 2 0).cls = .store ∧
    straddling.stage = .mem ∧ straddling.exmem.aluOutput = 0x100FFFFD ∧ straddling.nxt.pc = 0x100FFFFD := by decide

/-- Reset succeeds with the empty program and with a program of one word. -/
theorem witness_ResetLeavesTheTabledValues :
    State.resetWith Config.reference (some []) = .next (after (State.resetWith Config.reference (some []))) ∧
    State.resetWith Config.reference (some [0x2002000A]) =
      .next (after (State.resetWith Config.reference (some [0x2002000A]))) :=
  ⟨next_after (by decide), next_after (by decide)⟩

/-- A text region of eight bytes, which two words fill to the end. -/
def smallConfig : Config :=
  { Config.reference with regions := [⟨.text, 0x1000, 0x1007⟩, ⟨.data, 0x2000, 0x2FFF⟩], textBase := 0x1000 }

theorem witness_ResetLoadsTheProgram :
    smallConfig.wellFormed = true ∧ (⟨.text, 0x1000, 0x1007⟩ : Region) ∈ smallConfig.regions ∧
    smallConfig.textBase.toNat + 4 * [0x2002000A#32, 0x0000000C#32].length ≤ (0x1007#32).toNat + 1 ∧
    [0x2002000A#32, 0x0000000C#32][1]? = some 0x0000000C#32 := by decide

/-- Two regions side by side, the second with room for a word and two bytes: word 2 of a program goes into the second
region, word 3 straddles its end. With `smallConfig`, word 2 goes nowhere. -/
def adjacentConfig : Config :=
  { Config.reference with regions := [⟨.text, 0x1000, 0x1007⟩, ⟨.data, 0x1008, 0x100D⟩], textBase := 0x1000 }

theorem witness_LoaderPutsEachWordWhereWrite32Does :
    (∀ k < 3, accessAt smallConfig.regions (programAddress smallConfig k) ≠ .straddles) ∧
    accessAt smallConfig.regions (programAddress smallConfig 2) = .unmapped ∧
    (∀ k < 3, accessAt adjacentConfig.regions (programAddress adjacentConfig k) = .inside) ∧
    accessAt adjacentConfig.regions (programAddress adjacentConfig 3) = .straddles ∧
    4 * [1#32, 2#32, 3#32].length ≤ 2 ^ 32 := by decide

/-- R250, D21: the words and their number, past the end of the text region; and the straddling word. -/
theorem test_loader_past_the_text_region :
    loadProgram adjacentConfig [] [0x01, 0x02, 0x03] = .ok ⟨[(0x1000, 1), (0x1004, 2), (0x1008, 3)], 3⟩ ∧
    loadProgram smallConfig [] [0x01, 0x02, 0x03] = .ok ⟨[(0x1000, 1), (0x1004, 2)], 3⟩ ∧
    loadProgram adjacentConfig [] [0x01, 0x02, 0x03, 0x04] = .error 0x100C := ⟨rfl, rfl, rfl⟩

theorem witness_ResetForgetsTheOldState :
    (pipe 0 0 0 0).cfg = State.reset.cfg ∧ (pipe 0 0 0 0).idex ≠ (pipe 0 0 0x20010003 0).idex := by decide

theorem witness_PresetsWriteOneRegisterOrWord :
    State.reset.presetMem 0x10000000 7 = .next (after (State.reset.presetMem 0x10000000 7)) := next_after (by decide)

/-- Four different instructions in the four latches. -/
theorem witness_StepRunsTheLatchedInstructions :
    (pipe 0x00221821 0xAD090004 0x2002000A 0x0000000C).running = true ∧
    decodeWord (pipe 0x00221821 0xAD090004 0x2002000A 0x0000000C).memwb.ir = .addu 1 2 3 0 ∧
    decodeWord (pipe 0x00221821 0xAD090004 0x2002000A 0x0000000C).exmem.ir = .sw 8 9 4 ∧
    decodeWord (pipe 0x00221821 0xAD090004 0x2002000A 0x0000000C).idex.ir = .addi 0 2 10 ∧
    decodeWord (pipe 0x00221821 0xAD090004 0x2002000A 0x0000000C).ifid.ir = .syscall 0 0 0 0 := by decide

theorem witness_HaltedCoreDoesNotStep : State.Halted (pipe 0 0 0 0).halt := by decide

/-- A cycle that completes, one whose load straddles and one whose fetch straddles. -/
theorem witness_CycleCompletesUnlessAnAccessStraddles :
    (pipe 0 0x8C280000 0 0).running = true ∧ (pipe 0 0x8C280000 0 0).cfg.addRtIndirect = false ∧
    (pipe 0 0x8C280000 0 0).cfg.divSigned = false ∧ isNext (step (pipe 0 0x8C280000 0 0)) = true ∧
    isNext (step { pipe 0 0x8C280000 0 0 with exmem := ⟨0x8C280000, 0, 0, 0x100FFFFD⟩ }) = false ∧
    isNext (step { pipe 0 0 0 0 with cur := Arch.initial 0x004FFFFD }) = false := by decide

/-- Each of the stops is reached, in MEM before a division by zero in EX, in EX, and in IF after a division by zero, whose
diagnostic is kept; at the first index that faults and at the last that does not; and a cycle with none of them. -/
theorem witness_StepsStopOnlyWithTheNamedFaults :
    step { pipe 0 0x8C280000 0x0020001A 0 with exmem := ⟨0x8C280000, 0, 0, 0x100FFFFF⟩ } =
      .fault (.straddleAccess 0x100FFFFF 1 []) ∧
    step { (preset 5 32).withFetchWord 32 0x00221820 with cfg := cfgWith .cur true false } =
      .fault (.indirectIndex 1 []) ∧
    isNext (step { (preset 5 31).withFetchWord 32 0x00221820 with cfg := cfgWith .cur true false }) = true ∧
    step { (preset 0x80000000 0xFFFFFFFF).withFetchWord 32 0x0022181A with cfg := cfgWith .cur false true } =
      .fault (.divOverflow 1 []) ∧
    step { ((preset 7 0).withFetchWord 32 0x0022181A) with
        cur := { (preset 7 0).cur with pc := 0x004FFFFD } } =
      .fault (.straddleAccess 0x004FFFFD 1 [⟨1, .divByZero⟩]) :=
  ⟨rfl, rfl, by decide, rfl, rfl⟩

/-- An `sll` in EX, and an `sll` with `rd` 0. -/
theorem witness_FetchGoesPastABumpingSll :
    runs (pipe 0 0 0x00084400 0) = true ∧ rdField (pipe 0 0 0x00084400 0).idex.ir ≠ 0#5 ∧
    runs (pipe 0 0 0x00080400 0) = true ∧ rdField (pipe 0 0 0x00080400 0).idex.ir = 0#5 := by decide

/-- An opcode-0 word and another in IF/ID. -/
theorem witness_DecodeFillsIdEx :
    runs (pipe 0 0 0 0x00221821) = true ∧ opcodeField (pipe 0 0 0 0x00221821).ifid.ir = 0#6 ∧
    runs (pipe 0 0 0 0x2002800A) = true ∧ opcodeField (pipe 0 0 0 0x2002800A).ifid.ir ≠ 0#6 := by decide

/-- A load, a store and another word in MEM. -/
theorem witness_MemoryStageDispatch :
    runs (pipe 0 0x8C280000 0 0) = true ∧ opcodeField (pipe 0 0x8C280000 0 0).exmem.ir ∈ loadCodes ∧
    runs (pipe 0 0xAC280000 0 0) = true ∧ opcodeField (pipe 0 0xAC280000 0 0).exmem.ir ∈ storeCodes ∧
    runs (pipe 0 0x1022FFFF 0 0) = true ∧
    opcodeField (pipe 0 0x1022FFFF 0 0).exmem.ir ∉ loadCodes ++ storeCodes := by decide

theorem witness_OnlyAStoreChangesMemory :
    runs (pipe 0 0xAC280000 0 0) = true ∧ (pipe 0 0xAC280000 0 0).mem.wf = true ∧
    runs (pipe 0 0x8C280000 0 0) = true ∧ (pipe 0 0x8C280000 0 0).mem.wf = true ∧
    opcodeField (pipe 0 0x8C280000 0 0).exmem.ir ∉ storeCodes := by decide

/-- An opcode-0 word, a load and a store in WB, and the word 0, which writes register 0. -/
theorem witness_WritebackWritesTheSelectedRegister :
    [0x00221821, 0x8C230000, 0xAC230000, 0].all (fun w => runs (pipe w 0 0 0)) = true := by decide

theorem witness_HiLoAndExMemAAreNeverWritten :
    step (pipe 0x00221821 0xAD090004 0x0022181A 0) =
      .next (after (step (pipe 0x00221821 0xAD090004 0x0022181A 0))) := next_after (by decide)

/-- A catch-all word and another in EX. -/
theorem witness_StoreValueIsCapturedByTheCatchAllArm :
    runs (pipe 0 0 0xAD090004 0) = true ∧
    opcodeField (pipe 0 0 0xAD090004 0).idex.ir ∈ loadCodes ++ storeCodes ++ otherCodes ∧
    runs (pipe 0 0 0x2002000A 0) = true ∧
    opcodeField (pipe 0 0 0x2002000A 0).idex.ir ∉ loadCodes ++ storeCodes ++ otherCodes := by decide

/-- A syscall that halts, and one that does not. -/
theorem witness_OnlyAHaltingSyscallStopsTheCore :
    runs ((preset 0 10).withFetchWord 32 0x0000000C) = true ∧
    (after (step ((preset 0 10).withFetchWord 32 0x0000000C))).running = false ∧
    runs ((preset 0 11).withFetchWord 32 0x0000000C) = true ∧
    (after (step ((preset 0 11).withFetchWord 32 0x0000000C))).running = true := by decide

theorem witness_DivisionByZeroEmitsOneDiagnostic :
    runs ((preset 7 0).withFetchWord 32 0x0022181A) = true ∧ runs ((preset 7 0).withFetchWord 32 0x0022181B) = true ∧
    runs ((preset 7 1).withFetchWord 32 0x0022181A) = true := by decide

/-- A step whose counters wrap, and a run after reset. -/
theorem witness_CountersAdvanceTogether :
    runs { pipe 0 0 0 0 with cycleCount := 0xFFFFFFFF, instructionCount := 0xFFFFFFFF } = true ∧
    State.resetWith Config.reference (some []) = .next State.reset ∧
    runCycles 1 State.reset = .next (after (runCycles 1 State.reset)) :=
  ⟨by decide, rfl, next_after (by decide)⟩

/-- For both generations, an `or` in EX while WB writes its rs. -/
theorem witness_OperandsComeFromTheNamedGeneration :
    ((pipe 0x00220821 0 0x00221825 0).Inv ∧ runs (pipe 0x00220821 0 0x00221825 0) = true ∧
      (pipe 0x00220821 0 0x00221825 0).cfg.operandReadGen = .cur) ∧
    ((pipeNext 0x00220821 0 0x00221825 0).Inv ∧ runs (pipeNext 0x00220821 0 0x00221825 0) = true ∧
      (pipeNext 0x00220821 0 0x00221825 0).cfg.operandReadGen = .nxt) :=
  ⟨⟨pipe_inv _ _ _ _, by decide, rfl⟩, pipeNext_inv _ _ _ _, by decide, rfl⟩

/-- R9, R140: the two generations give the two values that register 1 has in that cycle, 5 and 0x55. -/
theorem test_generations_differ :
    (after (step (pipe 0x00220821 0 0x00221825 0))).exmem.aluOutput = 7 ∧
    (after (step (pipeNext 0x00220821 0 0x00221825 0))).exmem.aluOutput = 0x57 := by decide

theorem witness_HaltLastsUntilReset :
    runs ((preset 0 10).withFetchWord 32 0x0000000C) = true ∧
    (after (step ((preset 0 10).withFetchWord 32 0x0000000C))).running = false := by decide

/-- A state other than reset's has the invariant, and steps. -/
theorem witness_EveryStepKeepsTheInvariant :
    (pipe 0x00221821 0xAD090004 0x2002000A 0x0000000C).Inv ∧
    step (pipe 0x00221821 0xAD090004 0x2002000A 0x0000000C) =
      .next (after (step (pipe 0x00221821 0xAD090004 0x2002000A 0x0000000C))) :=
  ⟨pipe_inv _ _ _ _, next_after (by decide)⟩

theorem witness_HostOperationsKeepTheInvariant :
    Config.reference.wellFormed = true ∧ (pipe 0 0 0 0).Inv ∧
    State.resetWith Config.reference (some [0x2002000A]) =
      .next (after (State.resetWith Config.reference (some [0x2002000A]))) ∧
    (pipe 0 0 0 0).presetMem 0x10000000 0 = .next (after ((pipe 0 0 0 0).presetMem 0x10000000 0)) :=
  ⟨by decide, pipe_inv _ _ _ _, next_after (by decide), next_after (by decide)⟩

/-- A load and a store in MEM, and a halted core. -/
theorem witness_PortsShowTheCycle :
    runs (pipe 0 0x8C280000 0 0) = true ∧ opcodeField (pipe 0 0x8C280000 0 0).exmem.ir ∈ loadCodes ∧
    runs (pipe 0 0xAC280000 0 0) = true ∧ opcodeField (pipe 0 0xAC280000 0 0).exmem.ir ∈ storeCodes ∧
    (pipe 0 0xAC280000 0 0).halt.running = false := by decide

/-- The `n`th of the states that the word `w`, in IF/ID, goes through. -/
def nth (w : Word) : Nat → State
  | 0 => pipe 0 0 0 w
  | n + 1 => after (step (nth w n))

/-- The hypotheses that the statements about four cycles share, for a word in IF/ID. -/
theorem four_cycles {w : Word} (h : [nth w 0, nth w 1, nth w 2, nth w 3].all runs = true) :
    ((nth w 0).running = true ∧ (nth w 1).running = true ∧ (nth w 2).running = true ∧ (nth w 3).running = true) ∧
    step (nth w 0) = .next (nth w 1) ∧ step (nth w 1) = .next (nth w 2) ∧ step (nth w 2) = .next (nth w 3) ∧
    step (nth w 3) = .next (nth w 4) := by
  simp only [List.all_cons, List.all_nil, Bool.and_true, Bool.and_eq_true] at h
  have h0 := runs_next h.1
  have h1 := runs_next h.2.1
  have h2 := runs_next h.2.2.1
  have h3 := runs_next h.2.2.2
  exact ⟨⟨h0.1, h1.1, h2.1, h3.1⟩, h0.2, h1.2, h2.2, h3.2⟩

/-- A word that writes its result, and one whose arm writes nothing. -/
theorem witness_ResultReachesItsRegisterInFourCycles :
    [nth 0x00221821 0, nth 0x00221821 1, nth 0x00221821 2, nth 0x00221821 3].all runs = true ∧
    [nth 0x03E01808 0, nth 0x03E01808 1, nth 0x03E01808 2, nth 0x03E01808 3].all runs = true ∧
    opcodeField (nth 0x00221821 0).ifid.ir ∉ loadCodes ++ storeCodes ∧
    opcodeField (nth 0x03E01808 0).ifid.ir ∉ loadCodes ++ storeCodes := by decide

theorem witness_LoadedWordReachesItsRegister :
    [nth 0x8D0A0000 0, nth 0x8D0A0000 1, nth 0x8D0A0000 2, nth 0x8D0A0000 3].all runs = true ∧
    opcodeField (nth 0x8D0A0000 0).ifid.ir ∈ loadCodes := by decide

theorem witness_StoreReachesMemoryAndOverwritesItsRegister :
    [nth 0xAD010004 0, nth 0xAD010004 1, nth 0xAD010004 2, nth 0xAD010004 3].all runs = true ∧
    opcodeField (nth 0xAD010004 0).ifid.ir ∈ storeCodes := by decide

/-- An `addu` that writes register 3 in MEM and `or` words that read it in EX and in ID, for both generations: the consumers
at the distances 1, 2 and 3, and one more cycle, before which no word writes register 3. -/
theorem witness_ReadAfterWriteDistance :
    ((pipe 0 0x00221821 0x00622025 0x00622025).Inv ∧ (pipeNext 0 0x00221821 0x00622025 0x00622025).Inv) ∧
    (let s := pipe 0 0x00221821 0x00622025 0x00622025
     let n := pipeNext 0 0x00221821 0x00622025 0x00622025
     let t := after (step s)
     let u := after (step t)
     runs s = true ∧ runs t = true ∧ runs u = true ∧ runs (after (step u)) = true ∧
     runs n = true ∧ runs (after (step n)) = true ∧ runs (after (step (after (step n)))) = true ∧
     s.cfg.operandReadGen = .cur ∧ n.cfg.operandReadGen = .nxt ∧ wbDest s.exmem.ir = 3 ∧ wbDest s.memwb.ir ≠ 3 ∧
     rsField s.idex.ir = 3 ∧ rsField t.idex.ir = 3 ∧ wbDest u.memwb.ir ≠ 3) :=
  ⟨⟨pipe_inv _ _ _ _, pipeNext_inv _ _ _ _⟩, by decide⟩

/-- A state in which the stage `g` is under way, with this ALU address in EX/MEM. -/
def at' (g : Stage) (ea : Word) : State := { (pipe 0 0 0 0).atStage g with exmem := ⟨0, 0, 0x11223344, ea⟩ }

/-- The hypothesis of `DecodeStageOfEveryInstruction` and of `WritebackStageOfEveryInstruction`. -/
theorem witness_stages : (at' .id 0).stage = .id ∧ (at' .wb 0).stage = .wb ∧ (at' .ex 0).stage = .ex := by decide

theorem witness_MemoryStagePassesTheResult :
    (Instr.addu 1 2 3 0).cls ≠ .load ∧ (Instr.addu 1 2 3 0).cls ≠ .store ∧ (at' .mem 0).stage = .mem := by decide

/-- Inside at the last four bytes of data, and unmapped just past it: for `MemoryStageOfTheLoads` and, with a memory in its
canonical form, for `MemoryStageOfTheStores`. -/
theorem witness_MemoryStageOfTheLoads_and_Stores :
    (at' .mem 0x100FFFFC).stage = .mem ∧ (at' .mem 0x100FFFFC).mem.wf = true ∧
    accessAt (at' .mem 0x100FFFFC).cfg.regions (at' .mem 0x100FFFFC).exmem.aluOutput = .inside ∧
    accessAt (at' .mem 0x10100000).cfg.regions (at' .mem 0x10100000).exmem.aluOutput = .unmapped := by decide

/-- EX with ID/EX naming registers 1 and 2, which hold `a` and `b`. -/
def inEx (a b : Word) (ind sgn : Bool) : State :=
  { (((preset a b).withFetchWord 32 0x00221820).atStage .ex) with cfg := cfgWith .cur ind sgn }

/-- Direct, indirect at the last register, and indirect at the first index past it. -/
theorem witness_AddWritesTheSum :
    (inEx 5 7 false false).stage = .ex ∧ (inEx 5 7 false false).cfg.addRtIndirect = false ∧
    (inEx 5 31 true false).cfg.addRtIndirect = true ∧ (inEx 5 31 true false).opB.toNat < 32 ∧
    (inEx 5 32 true false).cfg.addRtIndirect = true ∧ 32 ≤ (inEx 5 32 true false).opB.toNat := by decide

/-- `SetLessThanWritesOneOrZero`, `ShiftLeftAlsoBumpsThePc` and `RightShiftsWriteTheShiftedValue`: `rd` not 0, and 0. -/
theorem witness_guard : (inEx 5 7 false false).stage = .ex ∧ (3#5 : RegIdx) ≠ 0#5 ∧ (0#5 : RegIdx) = 0#5 := by decide

/-- By zero; unsigned; signed with one of the two extreme operands; signed with both. -/
theorem witness_DivWritesTheQuotient :
    (inEx 7 0 false false).opB = 0#32 ∧
    ((inEx 7 2 false false).opB ≠ 0#32 ∧ (inEx 7 2 false false).cfg.divSigned = false) ∧
    ((inEx 0x80000000 1 false true).opB ≠ 0#32 ∧ (inEx 0x80000000 1 false true).cfg.divSigned = true ∧
      ¬((inEx 0x80000000 1 false true).opA = 0x80000000#32 ∧ (inEx 0x80000000 1 false true).opB = 0xFFFFFFFF#32)) ∧
    ((inEx 0x80000000 0xFFFFFFFF false true).cfg.divSigned = true ∧
      (inEx 0x80000000 0xFFFFFFFF false true).opA = 0x80000000#32 ∧
      (inEx 0x80000000 0xFFFFFFFF false true).opB = 0xFFFFFFFF#32) := by decide

theorem witness_DivuWritesTheUnsignedQuotient :
    (inEx 7 0 false false).stage = .ex ∧ (inEx 7 0 false false).opB = 0#32 ∧ (inEx 7 2 false false).opB ≠ 0#32 := by decide

/-- The value 10, and 0x10A, whose low byte is 10. -/
theorem witness_SyscallHaltsOnTen :
    (inEx 0 10 false false).stage = .ex ∧ (inEx 0 10 false false).x 2#5 = 0x0000000A#32 ∧
    (inEx 0 0x10A false false).x 2#5 ≠ 0x0000000A#32 := by decide

theorem witness_UnlistedFunctsWriteOnlyTheWord :
    (Instr.funct01 1 2 3 0).isUnlisted = true ∧ (Instr.funct3f 1 2 3 0).isUnlisted = true ∧
    (inEx 5 7 false false).stage = .ex := by decide

theorem witness_CatchAllComputesTheAddressAndCapturesRt :
    (Instr.lui 1 2 0).cls = .load ∧ (Instr.sb 1 2 0).cls = .store ∧ (Instr.opcode3f 1 2 0).cls = .other ∧
    (inEx 5 7 false false).stage = .ex := by decide

end Sys2Proof.Tests
end

/-! PROOFS. O18: when a step stops, and with which fault (R12, R64, R141, R157, R240, R300, R304). `EndsAs` says
of an outcome that it is one given fault, or a next state with a given property; each stage of a cycle is described by it
once, and the cycle is their composition. -/

namespace Sys2Proof.Machine
open Sys2Proof.Statement

/-! ### Decoding loses nothing, and what the codes of a word select -/

theorem encode_decodeRType (f : Code) (rs rt rd : RegIdx) (sh : Shamt) :
    encode (decodeRType f rs rt rd sh) = rWord rs rt rd sh f := by
  refine forall_code (fun f => encode (decodeRType f rs rt rd sh) = rWord rs rt rd sh f) (fun n => ?_) f
  fin_cases n <;> rfl

theorem encode_decodeIType (op : Code) (rs rt : RegIdx) (imm : Half) (h : op ≠ 0#6) :
    encode (decodeIType op rs rt imm) = iWord op rs rt imm := by
  refine forall_code (fun op => op ≠ 0#6 → encode (decodeIType op rs rt imm) = iWord op rs rt imm) (fun n => ?_) op h
  fin_cases n
  · exact fun h0 => absurd rfl h0
  all_goals exact fun _ => rfl

/-- Every bit of a word is held by its instruction, so a question about the word is one about the instruction. -/
theorem encode_decodeWord (w : Word) : encode (decodeWord w) = w := by
  unfold decodeWord
  split
  · next h => rw [encode_decodeRType, rWord_of_fields w h]
  · next h => rw [encode_decodeIType _ _ _ _ h, iWord_of_fields]

theorem cls_load_iff (i : Instr) : i.cls = .load ↔ opcodeField (encode i) ∈ loadCodes := by
  cases i <;> simp [Instr.cls, encode, loadCodes]

theorem cls_store_iff (i : Instr) : i.cls = .store ↔ opcodeField (encode i) ∈ storeCodes := by
  cases i <;> simp [Instr.cls, encode, storeCodes]

theorem dest_eq_wbDest (i : Instr) : i.dest = wbDest (encode i) := by
  cases i <;> simp [Instr.dest, encode, wbDest]

/-! ### Outcomes that are one fault or a next state -/

/-- The outcome is the fault `stop`, or, with none, a next state of which `P` holds. In particular it is no refusal. -/
def EndsAs (o : Result) (stop : Option Fault) (P : State → Prop) : Prop :=
  match stop with
  | some f => o = .fault f
  | none => ∃ t, o = .next t ∧ P t

theorem endsAs_next {t : State} {P : State → Prop} (h : P t) : EndsAs (.next t) none P := ⟨t, rfl, h⟩

theorem EndsAs.mono {o : Result} {stop : Option Fault} {P Q : State → Prop} (h : EndsAs o stop P)
    (hPQ : ∀ t, P t → Q t) : EndsAs o stop Q := by
  cases stop with
  | some f => exact h
  | none =>
    obtain ⟨t, ho, ht⟩ := h
    exact ⟨t, ho, hPQ t ht⟩

/-- In a sequence the first stop is the stop (R240). -/
theorem EndsAs.andThen {o : Result} {f : State → Result} {stop stop' : Option Fault} {P Q : State → Prop}
    (h : EndsAs o stop P) (hf : ∀ t, P t → EndsAs (f t) stop' Q) :
    EndsAs (andThen o f) (stop.or stop') Q := by
  cases stop with
  | some r => exact andThen_fault.2 (.inl h)
  | none =>
    obtain ⟨t, rfl, ht⟩ := h
    exact hf t ht

theorem EndsAs.not_refused {o : Result} {stop : Option Fault} {P : State → Prop} (h : EndsAs o stop P) (r : Refusal) :
    o ≠ .refused r := by
  rintro rfl
  cases stop with
  | some f => cases h
  | none =>
    obtain ⟨t, ht, -⟩ := h
    cases ht

theorem endsAs_none_true_iff {o : Result} : EndsAs o none (fun _ => True) ↔ ∃ t, o = .next t := by
  simp [EndsAs]

theorem endsAs_ite {o : Result} {p : Prop} [Decidable p] {f : Fault} {stop : Option Fault} {P : State → Prop} :
    EndsAs o (if p then some f else stop) P ↔ if p then o = .fault f else EndsAs o stop P := by
  split <;> rfl

/-- A sequence of stops as a chain of tests, the first one that holds naming the fault. -/
theorem endsAs_ite_or {o : Result} {p : Prop} [Decidable p] {f : Fault} {stop stop' : Option Fault}
    {P : State → Prop} :
    EndsAs o ((if p then some f else stop).or stop') P ↔ if p then o = .fault f else EndsAs o (stop.or stop') P := by
  split <;> rfl

theorem read32_none_iff (rs : List Region) (m : Memory) (a : Word) :
    read32 rs m a = none ↔ accessAt rs a = .straddles := by
  unfold read32
  split <;> simp_all

theorem write32_none_iff (rs : List Region) (m : Memory) (a v : Word) :
    write32 rs m a v = none ↔ accessAt rs a = .straddles := by
  unfold write32
  split <;> simp_all

/-! ### What an instruction does in WB, MEM and ID -/

theorem exec_wb (i : Instr) (s : State) : exec i (s.atStage .wb) =
    wbWrite i.dest (if i.cls = .load then s.memwb.lmd else s.memwb.aluOutput) (s.atStage .wb) := by
  cases i <;> rfl

theorem exec_mem (i : Instr) (s : State) : exec i (s.atStage .mem) =
    match i.cls with
    | .load => memLoad (s.atStage .mem)
    | .store => memStore (s.atStage .mem)
    | _ => memPass (s.atStage .mem) := by
  cases i <;> rfl

/-- ID writes ID/EX and nothing else. -/
theorem exec_id (i : Instr) (s : State) : ∃ l, exec i (s.atStage .id) = .next { s.atStage .id with idex := l } := by
  cases i <;> exact ⟨_, rfl⟩

/-! ### The stops of a cycle, from the state at its start -/

/-- The fault of a four-byte access at an address: it straddles (R64). -/
def straddleStop (s : State) (a : Word) : Option Fault :=
  if accessAt s.cfg.regions a = .straddles then some (.straddleAccess a s.cycleNumber s.diag) else none

/-- The fault of MEM: the access of a LOAD or STORE straddles (R213). -/
def memStop (s : State) : Option Fault :=
  if opcodeField s.exmem.ir ∈ loadCodes ++ storeCodes then straddleStop s s.exmem.aluOutput else none

/-- The fault of EX when the registers it reads are `x`: an indirect index of 32 or more (R141), or the signed quotient
that does not fit (R157). -/
def exStop (s : State) (x : RegIdx → Word) : Option Fault :=
  if opcodeField s.idex.ir = 0#6 ∧ (functField s.idex.ir = 0x20#6 ∨ functField s.idex.ir = 0x21#6) ∧
      s.cfg.addRtIndirect = true ∧ 32 ≤ (x (wordIdx s.idex.b)).toNat then
    some (.indirectIndex s.cycleNumber s.diag)
  else if opcodeField s.idex.ir = 0#6 ∧ functField s.idex.ir = 0x1a#6 ∧ s.cfg.divSigned = true ∧
      x (wordIdx s.idex.a) = 0x80000000#32 ∧ x (wordIdx s.idex.b) = 0xFFFFFFFF#32 then
    some (.divOverflow s.cycleNumber s.diag)
  else none

/-- The diagnostic output after EX when the registers it reads are `x` (R157, R159, R256). -/
def diagAfterEx (s : State) (x : RegIdx → Word) : List Diagnostic :=
  if IsDivision s.idex.ir ∧ x (wordIdx s.idex.b) = 0#32 then s.diag ++ [⟨s.cycleNumber, .divByZero⟩] else s.diag

/-- The fault of IF: the fetch straddles (R64, R121). It comes after EX, whose diagnostic it has (R304). -/
def fetchStop (s : State) : Option Fault :=
  if accessAt s.cfg.regions (fetchAddress s) = .straddles then
    some (.straddleAccess (fetchAddress s) s.cycleNumber (diagAfterEx s (exRegister s)))
  else none

/-- The first fault of a cycle in stage order. -/
def cycleStop (s : State) : Option Fault := (memStop s).or ((exStop s (exRegister s)).or (fetchStop s))

/-! ### WB and MEM -/

/-- What EX of a cycle that started from `s` finds in `t`. -/
structure BeforeEx (s t : State) : Prop where
  cfg : t.cfg = s.cfg
  idex : t.idex = s.idex
  pc : t.nxt.pc = s.cur.pc
  cycleCount : t.cycleCount = s.cycleCount
  diag : t.diag = s.diag
  reads : t.x = exRegister s

/-- What MEM of a cycle that started from `s` finds in `t`. -/
structure BeforeMem (s t : State) : Prop extends BeforeEx s t where
  exmem : t.exmem = s.exmem

/-- The value WB selects by the class of the instruction is the one it selects by the opcode of the word (R221). -/
theorem wbValue_of_cls (l : MemWb) :
    (if (decodeWord l.ir).cls = .load then l.lmd else l.aluOutput) = wbValue l := by
  simp only [cls_load_iff, encode_decodeWord, wbValue]

/-- WB writes one register of `NXT`, and an operand read sees it when it reads `NXT` (R221, R223). -/
theorem wbPhase_endsAs (s : State) : EndsAs (wbPhase s.beginCycle) none (BeforeMem s) := by
  have hwb : wbPhase s.beginCycle =
      wbWrite (wbDest s.memwb.ir) (wbValue s.memwb) (s.beginCycle.atStage .wb) := by
    rw [wbPhase, exec_wb, dest_eq_wbDest, encode_decodeWord]
    exact congrArg (wbWrite _ · _) (wbValue_of_cls s.memwb)
  rw [hwb]
  refine endsAs_next { cfg := rfl, idex := rfl, pc := rfl, cycleCount := rfl, diag := rfl, exmem := rfl, reads := ?_ }
  funext i
  cases hgen : s.cfg.operandReadGen with
  | cur =>
    simp only [State.x, exRegister, State.atStage_cfg, State.beginCycle_cfg, State.atStage_cur, State.beginCycle_cur, hgen]
  | nxt =>
    simp only [State.x, exRegister, State.atStage_cfg, State.beginCycle_cfg, State.atStage_nxt, State.beginCycle_nxt,
      Arch.reg_setReg, hgen]

/-- An operation that goes on when its access answers, and else is the fault of a straddling access. -/
theorem EndsAs.of_access {α : Type} {answer : Option α} {s : State} {a : Word} {o : Result} {P : State → Prop}
    (hiff : answer = none ↔ accessAt s.cfg.regions a = .straddles)
    (hsome : ∀ v, answer = some v → EndsAs o none P) (hnone : answer = none → o = s.straddle a) :
    EndsAs o (straddleStop s a) P := by
  unfold straddleStop
  split
  · next h => exact hnone (hiff.2 h)
  · next h =>
    obtain ⟨v, hv⟩ := Option.ne_none_iff_exists'.1 (h ∘ hiff.1)
    exact hsome v hv

theorem memLoad_endsAs (s : State) : EndsAs (memLoad s) (straddleStop s s.exmem.aluOutput)
    fun t => ∃ l, t = { s with memwb := l } :=
  .of_access (read32_none_iff _ s.mem _) (fun v hv => by simp only [memLoad, hv]; exact endsAs_next ⟨_, rfl⟩)
    fun hnone => by simp only [memLoad, hnone]

theorem memStore_endsAs (s : State) : EndsAs (memStore s) (straddleStop s s.exmem.aluOutput)
    fun t => ∃ l m, t = { s with memwb := l, mem := m } :=
  .of_access (write32_none_iff _ s.mem _ s.exmem.b) (fun m hm => by simp only [memStore, hm]; exact endsAs_next ⟨_, _, rfl⟩)
    fun hnone => by simp only [memStore, hnone]

/-- MEM writes MEM/WB and memory and nothing else. -/
theorem memPhase_endsAs (s : State) : EndsAs (memPhase s) (memStop s)
    fun t => ∃ l m, t = { s.atStage .mem with memwb := l, mem := m } := by
  have hload := cls_load_iff (decodeWord s.exmem.ir)
  have hstore := cls_store_iff (decodeWord s.exmem.ir)
  rw [encode_decodeWord] at hload hstore
  rw [memPhase, exec_mem, memStop]
  split
  · next hc =>
    rw [if_pos (List.mem_append_left _ (hload.1 hc))]
    exact (memLoad_endsAs _).mono fun t ⟨l, ht⟩ => ⟨l, _, ht⟩
  · next hc =>
    rw [if_pos (List.mem_append_right _ (hstore.1 hc))]
    exact memStore_endsAs _
  · next hl hs =>
    rw [if_neg fun hm => (List.mem_append.1 hm).elim (hl ∘ hload.2) (hs ∘ hstore.2)]
    exact endsAs_next ⟨_, _, rfl⟩

theorem memPhase_of_beforeMem {s t : State} (h : BeforeMem s t) :
    EndsAs (memPhase t) (memStop s) (BeforeEx s) := by
  have hstop : memStop t = memStop s := by
    simp only [memStop, straddleStop, State.cycleNumber, h.exmem, h.cfg, h.cycleCount, h.diag]
  rw [← hstop]
  refine (memPhase_endsAs t).mono ?_
  rintro _ ⟨l, m, rfl⟩
  exact ⟨h.cfg, h.idex, h.pc, h.cycleCount, h.diag, h.reads⟩

/-! ### EX -/

/-- The program counter that EX leaves for IF: a bumping `sll` has moved it (R152). -/
def pcAfterEx (s : State) : Word :=
  if opcodeField s.idex.ir = 0#6 ∧ functField s.idex.ir = 0x00#6 ∧ rdField s.idex.ir ≠ 0#5 then s.nxt.pc + 4
  else s.nxt.pc

/-- What IF uses is as in `s`, but for the program counter and the diagnostic output given. -/
structure LeavesForIf (s : State) (pc : Word) (diag : List Diagnostic) (t : State) : Prop where
  cfg : t.cfg = s.cfg
  cycleCount : t.cycleCount = s.cycleCount
  pc : t.nxt.pc = pc
  diag : t.diag = diag

/-- What an arm of EX leaves for IF, `EXMEM.IR` being written first. -/
theorem LeavesForIf.of_exIr {s : State} {pc : Word} {diag : List Diagnostic} (t : State)
    (h : LeavesForIf (s.atStage .ex).exIr pc diag t) : LeavesForIf s pc diag t :=
  ⟨h.cfg, h.cycleCount, h.pc, h.diag⟩

theorem exAdd_endsAs (s : State) : EndsAs (exAdd s)
    (if s.cfg.addRtIndirect = true ∧ 32 ≤ s.opB.toNat then some (.indirectIndex s.cycleNumber s.diag) else none)
    (LeavesForIf s s.nxt.pc s.diag) := by
  unfold exAdd
  split
  · next hi =>
    split
    · next hb =>
      rw [if_neg (by omega)]
      exact endsAs_next ⟨rfl, rfl, rfl, rfl⟩
    · next hb =>
      rw [if_pos ⟨hi, by omega⟩]
      rfl
  · next hi =>
    rw [if_neg (by simp [hi])]
    exact endsAs_next ⟨rfl, rfl, rfl, rfl⟩

theorem exDiv_endsAs (signed : Bool) (s : State) : EndsAs (exDiv signed s)
    (if signed = true ∧ s.opA = 0x80000000#32 ∧ s.opB = 0xFFFFFFFF#32 then some (.divOverflow s.cycleNumber s.diag)
      else none)
    (LeavesForIf s s.nxt.pc (if s.opB = 0#32 then s.diag ++ [⟨s.cycleNumber, .divByZero⟩] else s.diag)) := by
  unfold exDiv
  split
  · next h0 =>
    rw [if_neg (by simp [h0])]
    exact endsAs_next ⟨rfl, rfl, rfl, rfl⟩
  · split
    · next hs =>
      split
      · next ho =>
        rw [if_pos ⟨hs, ho⟩]
        rfl
      · next ho =>
        rw [if_neg fun hc => ho hc.2]
        exact endsAs_next ⟨rfl, rfl, rfl, rfl⟩
    · next hs =>
      rw [if_neg fun hc => hs hc.1]
      exact endsAs_next ⟨rfl, rfl, rfl, rfl⟩

theorem exSyscall_endsAs (s : State) : EndsAs (exSyscall s) none (LeavesForIf s s.nxt.pc s.diag) := by
  unfold exSyscall
  split <;> exact endsAs_next ⟨rfl, rfl, rfl, rfl⟩

/-- The guarded arms but that of `sll` only write ALUOutput (R149, R150, R153, R154). -/
theorem exGuarded_setAlu_endsAs (rd : RegIdx) (v : State → Word) (s : State) :
    EndsAs (exGuarded rd (fun t => t.setAlu (v t)) s) none (LeavesForIf s s.nxt.pc s.diag) := by
  unfold exGuarded
  split <;> exact endsAs_next ⟨rfl, rfl, rfl, rfl⟩

/-- The arm of `sll` moves the program counter under its guard (R152). -/
theorem exGuarded_bumpPc_endsAs (rd : RegIdx) (v : State → Word) (s : State) :
    EndsAs (exGuarded rd (fun t => (t.setAlu (v t)).bumpPc) s) none
      (LeavesForIf s (if rd = 0#5 then s.nxt.pc else s.nxt.pc + 4) s.diag) := by
  unfold exGuarded
  split <;> exact endsAs_next ⟨rfl, rfl, rfl, rfl⟩

/-- The words whose EX arm can fault, emit a diagnostic or move the program counter: `sll`, `div`, `divu`, `add`, `addu`. -/
def IsSpecialInEx (w : Word) : Prop :=
  opcodeField w = 0#6 ∧ functField w ∈ [0x00#6, 0x1a#6, 0x1b#6, 0x20#6, 0x21#6]

/-- What EX does, as IF sees it. -/
def ExOutcome (s : State) (o : Result) : Prop :=
  EndsAs o (exStop s s.x) (LeavesForIf s (pcAfterEx s) (diagAfterEx s s.x))

theorem ExOutcome.of_arm {s : State} {o : Result} {stop : Option Fault} {pc : Word} {diag : List Diagnostic}
    (ho : EndsAs o stop (LeavesForIf (s.atStage .ex).exIr pc diag))
    (hstop : exStop s s.x = stop) (hpc : pcAfterEx s = pc) (hdiag : diagAfterEx s s.x = diag) : ExOutcome s o := by
  subst hstop hpc hdiag
  exact ho.mono LeavesForIf.of_exIr

theorem ExOutcome.of_plain {s : State} {o : Result} (hw : ¬IsSpecialInEx s.idex.ir)
    (ho : EndsAs o none (LeavesForIf (s.atStage .ex).exIr s.nxt.pc s.diag)) : ExOutcome s o := by
  by_cases hop : opcodeField s.idex.ir = 0#6
  · have hf : functField s.idex.ir ∉ [0x00#6, 0x1a#6, 0x1b#6, 0x20#6, 0x21#6] := fun hm => hw ⟨hop, hm⟩
    simp only [List.mem_cons, List.not_mem_nil, or_false, not_or] at hf
    exact .of_arm ho (by simp [exStop, hf]) (by simp [pcAfterEx, hf]) (by simp [diagAfterEx, IsDivision, hf])
  · exact .of_arm ho (by simp [exStop, hop]) (by simp [pcAfterEx, hop]) (by simp [diagAfterEx, IsDivision, hop])

theorem ExOutcome.of_add {s : State} (hop : opcodeField s.idex.ir = 0#6)
    (hf : functField s.idex.ir = 0x20#6 ∨ functField s.idex.ir = 0x21#6) :
    ExOutcome s (exAdd (s.atStage .ex).exIr) := by
  refine .of_arm (exAdd_endsAs _) ?_ ?_ ?_
  · rcases hf with hf | hf <;> simp [exStop, hop, hf] <;> rfl
  · rcases hf with hf | hf <;> simp [pcAfterEx, hf]
  · rcases hf with hf | hf <;> simp [diagAfterEx, IsDivision, hf]

theorem ExOutcome.of_div {s : State} (hop : opcodeField s.idex.ir = 0#6) (hf : functField s.idex.ir = 0x1a#6) :
    ExOutcome s (exDiv s.cfg.divSigned (s.atStage .ex).exIr) := by
  refine .of_arm (exDiv_endsAs _ _) ?_ ?_ ?_
  · simp [exStop, hop, hf]; rfl
  · simp [pcAfterEx, hf]
  · simp [diagAfterEx, IsDivision, hop, hf]; rfl

theorem ExOutcome.of_divu {s : State} (hop : opcodeField s.idex.ir = 0#6) (hf : functField s.idex.ir = 0x1b#6) :
    ExOutcome s (exDiv false (s.atStage .ex).exIr) := by
  refine .of_arm (exDiv_endsAs _ _) ?_ ?_ ?_
  · simp [exStop, hf]
  · simp [pcAfterEx, hf]
  · simp [diagAfterEx, IsDivision, hop, hf]; rfl

theorem ExOutcome.of_sll {s : State} (hop : opcodeField s.idex.ir = 0#6) (hf : functField s.idex.ir = 0x00#6)
    (v : State → Word) :
    ExOutcome s (exGuarded (rdField s.idex.ir) (fun t => (t.setAlu (v t)).bumpPc) (s.atStage .ex).exIr) := by
  refine .of_arm (exGuarded_bumpPc_endsAs _ _ _) ?_ ?_ ?_
  · simp [exStop, hf]
  · simp [pcAfterEx, hop, hf]
  · simp [diagAfterEx, IsDivision, hf]

/-- EX of every instruction: the five special ones, the other guarded ones, `syscall`, and the rest, whose arms write
EX/MEM alone. -/
theorem exec_ex (i : Instr) (s : State) (h : encode i = s.idex.ir) : ExOutcome s (exec i (s.atStage .ex)) := by
  cases i with
  | add | addu => exact .of_add (by simp [← h, encode]) (by simp [← h, encode])
  | div => exact .of_div (by simp [← h, encode]) (by simp [← h, encode])
  | divu => exact .of_divu (by simp [← h, encode]) (by simp [← h, encode])
  | sll rs rt rd sh =>
    have hrd : rdField s.idex.ir = rd := by simp [← h, encode]
    have harm := ExOutcome.of_sll (s := s) (by simp [← h, encode]) (by simp [← h, encode]) (·.opB <<< sh.toNat)
    rwa [hrd] at harm
  | slt rs rt rd sh =>
    exact .of_plain (by simp [IsSpecialInEx, ← h, encode])
      (exGuarded_setAlu_endsAs rd (fun t => setLessSigned t.opA t.opB) _)
  | sltu rs rt rd sh =>
    exact .of_plain (by simp [IsSpecialInEx, ← h, encode])
      (exGuarded_setAlu_endsAs rd (fun t => setLessUnsigned t.opA t.opB) _)
  | srl rs rt rd sh =>
    exact .of_plain (by simp [IsSpecialInEx, ← h, encode])
      (exGuarded_setAlu_endsAs rd (fun t => t.opB >>> sh.toNat) _)
  | sra rs rt rd sh =>
    exact .of_plain (by simp [IsSpecialInEx, ← h, encode])
      (exGuarded_setAlu_endsAs rd (fun t => t.opB.sshiftRight sh.toNat) _)
  | syscall => exact .of_plain (by simp [IsSpecialInEx, ← h, encode]) (exSyscall_endsAs _)
  | _ => exact .of_plain (by simp [IsSpecialInEx, ← h, encode]) (endsAs_next ⟨rfl, rfl, rfl, rfl⟩)

/-- EX in a cycle that started from `s` (R140). -/
theorem exPhase_of_beforeEx {s t : State} (h : BeforeEx s t) :
    EndsAs (exPhase t) (exStop s (exRegister s))
      (LeavesForIf s (fetchAddress s) (diagAfterEx s (exRegister s))) := by
  have hstop : exStop t t.x = exStop s (exRegister s) := by
    simp only [exStop, State.cycleNumber, h.cfg, h.idex, h.cycleCount, h.diag, h.reads]
  have hdiag : diagAfterEx t t.x = diagAfterEx s (exRegister s) := by
    simp only [diagAfterEx, State.cycleNumber, h.idex, h.cycleCount, h.diag, h.reads]
  have hpc : pcAfterEx t = fetchAddress s := by
    simp only [pcAfterEx, fetchAddress, h.idex, h.pc]
  rw [← hstop, ← hdiag, ← hpc]
  exact (exec_ex _ t (encode_decodeWord _)).mono fun u hu =>
    ⟨hu.cfg.trans h.cfg, hu.cycleCount.trans h.cycleCount, hu.pc, hu.diag⟩

/-! ### ID, IF and the cycle -/

theorem idPhase_leavesForIf {s t : State} {pc : Word} {diag : List Diagnostic} (h : LeavesForIf s pc diag t) :
    EndsAs (idPhase t) none (LeavesForIf s pc diag) := by
  obtain ⟨l, hl⟩ := exec_id (decodeWord t.ifid.ir) t
  rw [idPhase, hl]
  exact endsAs_next ⟨h.cfg, h.cycleCount, h.pc, h.diag⟩

theorem ifPhase_endsAs (s : State) : EndsAs (ifPhase s) (straddleStop s s.nxt.pc) fun _ => True :=
  .of_access (read32_none_iff _ s.mem _) (fun w hw => by simp only [ifPhase, hw]; exact endsAs_next trivial)
    fun hnone => by simp only [ifPhase, hnone]

theorem ifPhase_of_leavesForIf {s t : State}
    (h : LeavesForIf s (fetchAddress s) (diagAfterEx s (exRegister s)) t) :
    EndsAs (ifPhase t) (fetchStop s) fun _ => True := by
  have hstop : straddleStop t t.nxt.pc = fetchStop s := by
    simp only [straddleStop, fetchStop, State.cycleNumber, h.cfg, h.cycleCount, h.pc, h.diag]
  exact hstop ▸ ifPhase_endsAs t

/-- The stages composed: no cycle is refused, the first fault in stage order stops it, and else it completes (R240, R245,
R304). -/
theorem cycle_endsAs (s : State) : EndsAs (cycle s) (cycleStop s) fun _ => True := by
  have hmem := (wbPhase_endsAs s).andThen fun _ => memPhase_of_beforeMem
  have hex := hmem.andThen fun _ => exPhase_of_beforeEx
  have hid := hex.andThen fun _ => idPhase_leavesForIf
  have hif := hid.andThen fun _ => ifPhase_of_leavesForIf
  have hall := hif.andThen (Q := fun _ => True) fun t _ => endsAs_next (t := t.commit) trivial
  simpa only [cycle, cycleThroughEx, cycleStop, Option.none_or, Option.or_none, Option.or_assoc] using hall

theorem step_halted {s : State} (h : s.running = false) : step s = .next s := by
  simp [step, clockEdge, h]

theorem step_not_refused (s : State) (r : Refusal) : step s ≠ .refused r := by
  cases h : s.running with
  | false => simp [step_halted h]
  | true => exact step_running h ▸ (cycle_endsAs s).not_refused r

/-- Settles O18: the stop of a step is that of its cycle, read off stage by stage. -/
theorem stepsStopOnlyWithTheNamedFaults : Obligations.StepsStopOnlyWithTheNamedFaults := by
  intro s
  refine ⟨step_not_refused s, fun h f => by simp [step_halted h], fun h => ?_⟩
  have hcycle := cycle_endsAs s
  rw [← step_running h] at hcycle
  simp only [cycleStop, memStop, straddleStop, ← ite_and, exStop, fetchStop, diagAfterEx, State.cycleNumber,
    endsAs_ite_or, endsAs_ite, Option.none_or, endsAs_none_true_iff] at hcycle
  exact hcycle

end Sys2Proof.Machine

/-! PROOFS. The invariant and the frame of the state: O11, O24, O26, O33, O34 (R21, R25, R26, R29, R35, R36, R60, R125,
R158, R180, R226). Each phase of a cycle has one lemma that says what its next state is; `CycleEffect` is their
composition, and what is proved of every step is read off from it. -/

namespace Sys2Proof.Machine
open Sys2Proof.Statement

/-! ### Reset -/

/-- The state after reset has the invariant for all well-formed parameters (R36, R330). -/
theorem blank_inv {cfg : Config} (h : cfg.wellFormed = true) : (State.blank cfg).Inv where
  cfgOk := h
  memWf := rfl
  memMapped := fun _ hc => nomatch hc
  nxtEqCur := rfl
  pcAligned := rfl
  hiLoZero := ⟨rfl, rfl⟩
  idexA := show 0#32 = idxWord (rsField 0#32) by decide
  idexB := show 0#32 = idxWord (rtField 0#32) by decide
  idexImm := fun hop => absurd (show opcodeField 0#32 = 0#6 by decide) hop
  exmemA := rfl
  counters := rfl
  stageWb := rfl

/-- Settles O34: the reference configuration is well-formed. -/
theorem resetStateHasTheInvariant : Obligations.ResetStateHasTheInvariant :=
  blank_inv (by decide)

/-- Settles O11: a reset that succeeds leaves the blank state but for the loaded memory, and the empty program loads
nothing. -/
theorem resetLeavesTheTabledValues : Obligations.ResetLeavesTheTabledValues := by
  refine ⟨rfl, fun cfg p s h => ?_⟩
  obtain ⟨ws, m, rfl, hload, rfl⟩ := resetWith_next h
  refine ⟨rfl, Arch.reg_initial cfg.textBase, rfl, rfl, rfl, rfl, rfl, rfl, rfl, rfl, rfl, rfl, rfl, rfl, ?_⟩
  rintro ⟨rfl⟩ k
  obtain rfl : [] = m := by simpa [load] using hload
  rfl

/-! ### Memory holds bytes of regions only (R60) -/

/-- Every listed address lies in a region. -/
def Memory.MappedIn (rs : List Region) (m : Memory) : Prop :=
  ∀ c ∈ m, ∃ r ∈ rs, r.beginAddr.toNat ≤ c.1 ∧ c.1 ≤ r.endAddr.toNat

/-- Writing a byte lists no address but its own. -/
theorem mem_setByte {m : Memory} {k : Nat} {v : Byte} {c : Host.Cell} (hc : c ∈ setByte m k v) : c ∈ m ∨ c.1 = k := by
  induction m with
  | nil =>
    simp only [setByte] at hc
    split at hc
    · exact .inl hc
    · obtain rfl := List.mem_singleton.1 hc
      exact .inr rfl
  | cons d m ih =>
    simp only [setByte] at hc
    split_ifs at hc with hlt hv heq hv
    · exact .inl hc
    · rcases List.mem_cons.1 hc with rfl | hc
      · exact .inr rfl
      · exact .inl hc
    · exact .inl (List.mem_cons_of_mem _ hc)
    · rcases List.mem_cons.1 hc with rfl | hc
      · exact .inr rfl
      · exact .inl (List.mem_cons_of_mem _ hc)
    · rcases List.mem_cons.1 hc with rfl | hc
      · exact .inl List.mem_cons_self
      · exact (ih hc).imp_left (List.mem_cons_of_mem _)

/-- Writing a word lists no addresses but its four (R63). -/
theorem mem_setWord {m : Memory} {k : Nat} {v : Word} {c : Host.Cell} (hc : c ∈ setWord m k v) :
    c ∈ m ∨ (k ≤ c.1 ∧ c.1 ≤ k + 3) := by
  rcases mem_setByte hc with hc | hk
  · rcases mem_setByte hc with hc | hk
    · rcases mem_setByte hc with hc | hk
      · rcases mem_setByte hc with hc | hk
        · exact .inl hc
        · exact .inr (by omega)
      · exact .inr (by omega)
    · exact .inr (by omega)
  · exact .inr (by omega)

/-- `write32` writes into a region or not at all (R62, R63). -/
theorem write32_mappedIn {rs : List Region} {m m' : Memory} {a v : Word} (hm : m.MappedIn rs)
    (h : write32 rs m a v = some m') : m'.MappedIn rs := by
  rcases write32_some h with ⟨-, rfl⟩ | ⟨hin, rfl⟩
  · exact hm
  · obtain ⟨r, hr, hbegin, hend⟩ := accessAt_inside hin
    intro c hc
    rcases mem_setWord hc with hc | ⟨hlo, hhi⟩
    · exact hm c hc
    · exact ⟨r, hr, by omega, by omega⟩

/-! ### What WB, MEM and ID leave -/

theorem wbPhase_next {s t : State} (h : wbPhase s = .next t) :
    t = { s.atStage .wb with
      nxt := s.nxt.setReg (wbDest s.memwb.ir) (wbValue s.memwb), instructionCount := s.instructionCount + 1 } := by
  rw [wbPhase, exec_wb, dest_eq_wbDest, encode_decodeWord, wbValue_of_cls] at h
  exact wbWrite_next h

/-- MEM writes MEM/WB, and memory when a STORE is in it (R200 to R203). -/
theorem memPhase_next {s t : State} (h : memPhase s = .next t) :
    ∃ l m, t = { s.atStage .mem with memwb := l, mem := m } ∧
      if opcodeField s.exmem.ir ∈ storeCodes
      then write32 s.cfg.regions s.mem s.exmem.aluOutput s.exmem.b = some m else m = s.mem := by
  have hstore := cls_store_iff (decodeWord s.exmem.ir)
  rw [encode_decodeWord] at hstore
  rw [memPhase, exec_mem] at h
  split at h
  · next hc =>
    obtain ⟨v, -, rfl⟩ := memLoad_next h
    exact ⟨_, _, rfl, by simp [← hstore, hc]⟩
  · next hc =>
    obtain ⟨m, hm, rfl⟩ := memStore_next h
    exact ⟨_, m, rfl, by rw [if_pos (hstore.1 hc)]; exact hm⟩
  · next hc =>
    obtain rfl := memPass_next h
    exact ⟨_, _, rfl, by rw [if_neg (hc ∘ hstore.2)]; rfl⟩

/-- ID/EX as Decode leaves it for the word `w`, the immediate `held` staying when the opcode is 0 (R125, R126). -/
def decodedLatch (held w : Word) : IdEx where
  ir := w
  a := idxWord (rsField w)
  b := idxWord (rtField w)
  imm := if opcodeField w = 0#6 then held else sext32 (immField w)

/-- ID reads the word alone: whether its opcode is 0, and its fields (R126). -/
theorem exec_id_eq (i : Instr) (s : State) : exec i (s.atStage .id) = .next
    (if opcodeField (encode i) = 0#6 then (s.atStage .id).idRType (rsField (encode i)) (rtField (encode i))
      else (s.atStage .id).idIType (rsField (encode i)) (rtField (encode i)) (immField (encode i))) := by
  cases i <;>
    simp only [encode, opcodeField_rWord, rsField_rWord, rtField_rWord, opcodeField_iWord, rsField_iWord,
      rtField_iWord, immField_iWord, ↓reduceIte, BitVec.reduceEq] <;>
    rfl

theorem idPhase_next {s t : State} (h : idPhase s = .next t) :
    t = { s.atStage .id with idex := decodedLatch s.idex.imm s.ifid.ir } := by
  rw [idPhase, exec_id_eq, encode_decodeWord] at h
  cases h
  unfold decodedLatch
  split <;> rfl

/-! ### What EX leaves -/

/-- The word is a `syscall` (R158). -/
abbrev IsSyscall (w : Word) : Prop := opcodeField w = 0#6 ∧ functField w = 0x0c#6

/-- The run flag after EX when the registers it reads are `x` (R158). -/
def runningAfterEx (s : State) (x : RegIdx → Word) : Bool :=
  if IsSyscall s.idex.ir ∧ x 2#5 = haltCode then false else s.running

/-- EX of `s` has left `t` with the given run flag: beyond it EX writes EX/MEM but for its `a`, the PC of `NXT` and the
diagnostic output, and nothing else. -/
def ExLeaves (s : State) (running : Bool) (t : State) : Prop :=
  ∃ b v pc d, t = { s.atStage .ex with
    exmem := ⟨s.idex.ir, s.exmem.a, b, v⟩, nxt := { s.nxt with pc := pc }, running := running, diag := d }

theorem exAdd_leaves {s t : State} (h : exAdd (s.atStage .ex).exIr = .next t) : ExLeaves s s.running t := by
  rcases exAdd_next h with ⟨-, rfl⟩ | ⟨-, -, rfl⟩
  · exact ⟨_, _, _, _, rfl⟩
  · exact ⟨_, _, _, _, rfl⟩

theorem exDiv_leaves {signed : Bool} {s t : State} (h : exDiv signed (s.atStage .ex).exIr = .next t) :
    ExLeaves s s.running t := by
  rcases exDiv_next h with ⟨-, rfl⟩ | ⟨-, -, rfl⟩ | ⟨-, -, rfl⟩
  · exact ⟨_, _, _, _, rfl⟩
  · exact ⟨_, _, _, _, rfl⟩
  · exact ⟨_, _, _, _, rfl⟩

/-- The arms that always answer. -/
theorem ExLeaves.of_next {running : Bool} {s t u : State} (h : (.next u : Result) = .next t)
    (hu : ExLeaves s running u) : ExLeaves s running t := by
  cases h
  exact hu

/-- The guarded arms (R151). -/
theorem ExLeaves.ite {p : Prop} [Decidable p] {running : Bool} {s t u : State} (ht : ExLeaves s running t)
    (hu : ExLeaves s running u) : ExLeaves s running (if p then t else u) := by
  split
  · exact ht
  · exact hu

theorem ExLeaves.of_not_syscall {s t : State} (hw : ¬IsSyscall s.idex.ir) (h : ExLeaves s s.running t) :
    ExLeaves s (runningAfterEx s s.x) t := by
  have hr : runningAfterEx s s.x = s.running := if_neg fun hc => hw hc.1
  rwa [hr]

/-- `syscall` halts on the code 10 and else writes EX/MEM.IR alone (R158). -/
theorem ExLeaves.of_syscall {s t : State} (hw : IsSyscall s.idex.ir)
    (h : exSyscall (s.atStage .ex).exIr = .next t) : ExLeaves s (runningAfterEx s s.x) t := by
  rcases exSyscall_next h with ⟨hx, rfl⟩ | ⟨hx, rfl⟩
  · rw [runningAfterEx, if_pos ⟨hw, hx⟩]
    exact ⟨_, _, _, _, rfl⟩
  · rw [runningAfterEx, if_neg fun hc => hx hc.2]
    exact ⟨_, _, _, _, rfl⟩

/-- EX of every instruction: the arms that may stop, the guarded arms, `syscall`, and the rest, which always answer. -/
theorem exec_ex_leaves {i : Instr} {s t : State} (hi : encode i = s.idex.ir)
    (h : exec i (s.atStage .ex) = .next t) : ExLeaves s (runningAfterEx s s.x) t := by
  cases i with
  | syscall => exact .of_syscall (by simp [IsSyscall, ← hi, encode]) h
  | add | addu => exact .of_not_syscall (by simp [IsSyscall, ← hi, encode]) (exAdd_leaves h)
  | div | divu => exact .of_not_syscall (by simp [IsSyscall, ← hi, encode]) (exDiv_leaves h)
  | slt | sltu | sll | srl | sra =>
    exact .of_not_syscall (by simp [IsSyscall, ← hi, encode]) (.of_next h (.ite ⟨_, _, _, _, rfl⟩ ⟨_, _, _, _, rfl⟩))
  | _ => exact .of_not_syscall (by simp [IsSyscall, ← hi, encode]) (.of_next h ⟨_, _, _, _, rfl⟩)

theorem exPhase_next {s t : State} (h : exPhase s = .next t) : ExLeaves s (runningAfterEx s s.x) t :=
  exec_ex_leaves (encode_decodeWord _) h

/-! ### What a completed cycle leaves -/

/-- What the cycle from `s` to `t` has done, except for the two values in EX/MEM and those in MEM/WB. -/
structure CycleEffect (s t : State) : Prop where
  cfg : t.cfg = s.cfg
  cur : t.cur = { s.cur.setReg (wbDest s.memwb.ir) (wbValue s.memwb) with pc := fetchAddress s + 4 }
  nxt : t.nxt = t.cur
  ifid : ∃ w, read32 s.cfg.regions t.mem (fetchAddress s) = some w ∧ t.ifid = ⟨w, fetchAddress s⟩
  idex : t.idex = decodedLatch s.idex.imm s.ifid.ir
  exmemIr : t.exmem.ir = s.idex.ir
  exmemA : t.exmem.a = s.exmem.a
  mem : if opcodeField s.exmem.ir ∈ storeCodes
    then write32 s.cfg.regions s.mem s.exmem.aluOutput s.exmem.b = some t.mem else t.mem = s.mem
  running : t.running = runningAfterEx s (exRegister s)
  cycleCount : t.cycleCount = s.cycleCount + 1
  instructionCount : t.instructionCount = s.instructionCount + 1
  diag : t.diag = diagAfterEx s (exRegister s)
  stage : t.stage = .wb

theorem EndsAs.of_next {o : Result} {stop : Option Fault} {P : State → Prop} {t : State} (h : EndsAs o stop P)
    (ho : o = .next t) : P t := by
  subst ho
  cases stop with
  | some f => cases h
  | none =>
    obtain ⟨u, hu, hP⟩ := h
    cases hu
    exact hP

/-- The run flag after EX is a matter of the word in ID/EX, the registers read and the run flag before it. -/
theorem runningAfterEx_congr {s t : State} (hidex : t.idex = s.idex) (hrun : t.running = s.running)
    (x : RegIdx → Word) : runningAfterEx t x = runningAfterEx s x := by
  simp only [runningAfterEx, hidex, hrun]

/-- The stages composed (R245). -/
theorem cycle_effect {s t : State} (h : cycle s = .next t) : CycleEffect s t := by
  obtain ⟨s1, s2, s3, s4, s5, hwb, hmem, hex, hid, hif, rfl⟩ := cycle_next h
  have before_mem : BeforeMem s s1 := (wbPhase_endsAs s).of_next hwb
  have before_ex : BeforeEx s s2 := (memPhase_of_beforeMem before_mem).of_next hmem
  have leaves : LeavesForIf s (fetchAddress s) (diagAfterEx s (exRegister s)) s3 :=
    (exPhase_of_beforeEx before_ex).of_next hex
  have hs1 := wbPhase_next hwb
  obtain ⟨l, m, hs2, hm⟩ := memPhase_next hmem
  have hrun : s2.running = s.running := by rw [hs2, hs1]; rfl
  have hs3 := exPhase_next hex
  rw [before_ex.reads, runningAfterEx_congr before_ex.idex hrun] at hs3
  obtain ⟨b, v, pc, d, rfl⟩ := hs3
  subst hs2 hs1
  obtain rfl : pc = fetchAddress s := leaves.pc
  obtain rfl := idPhase_next hid
  obtain ⟨w, hw, rfl⟩ := ifPhase_next hif
  exact
    { cfg := rfl, cur := rfl, nxt := rfl, ifid := ⟨w, hw, rfl⟩, idex := rfl, exmemIr := rfl, exmemA := rfl, mem := hm
      running := rfl, cycleCount := rfl, instructionCount := rfl, diag := leaves.diag, stage := rfl }

theorem step_effect {s t : State} (hr : s.running = true) (h : step s = .next t) : CycleEffect s t :=
  cycle_effect (step_running hr ▸ h)

/-- In a cycle that completes, a register of the generation read is as EX reads it (R140, R223). -/
theorem CycleEffect.readInCycle_eq {s t : State} (h : CycleEffect s t) (i : RegIdx) :
    readInCycle s t i = exRegister s i := by
  have hreg : t.cur.reg i = (s.cur.setReg (wbDest s.memwb.ir) (wbValue s.memwb)).reg i := by
    rw [h.cur]
    rfl
  rw [readInCycle, exRegister, hreg, Arch.reg_setReg]

/-! ### What every step keeps -/

/-- Settles O24: a halted core does not change, and a cycle leaves HI, LO, EX/MEM.A and the parameters. -/
theorem hiLoAndExMemAAreNeverWritten : Obligations.HiLoAndExMemAAreNeverWritten := by
  intro s t h
  rcases step_next h with ⟨-, rfl⟩ | ⟨-, hc⟩
  · exact ⟨rfl, rfl, rfl, rfl⟩
  · have e := cycle_effect hc
    exact ⟨by simp [e.cur], by simp [e.cur], e.exmemA, e.cfg⟩

/-- Settles O26: the run flag after a cycle is that of EX, on the registers EX reads. -/
theorem onlyAHaltingSyscallStopsTheCore : Obligations.OnlyAHaltingSyscallStopsTheCore := by
  intro s t hr h
  have e := step_effect hr h
  rw [e.running, e.readInCycle_eq, runningAfterEx, hr, ← and_assoc]
  split
  · next hc => exact iff_of_true rfl hc
  · next hc => exact iff_of_false nofun hc

theorem toNat_add_four_mod_four (a : Word) : (a + 4).toNat % 4 = a.toNat % 4 := by
  have h4 : (4 : Word).toNat = 4 := rfl
  rw [BitVec.toNat_add, h4]
  omega

/-- A fetch is from the PC, past one word if a bumping `sll` is in EX (R25, R123). -/
theorem fetchAddress_mod_four (s : State) : (fetchAddress s).toNat % 4 = s.cur.pc.toNat % 4 := by
  unfold fetchAddress
  split
  · exact toNat_add_four_mod_four _
  · rfl

/-- Memory after a cycle is that before it or a `write32` of it. -/
theorem CycleEffect.mem_cases {s t : State} (h : CycleEffect s t) :
    t.mem = s.mem ∨ write32 s.cfg.regions s.mem s.exmem.aluOutput s.exmem.b = some t.mem := by
  have hm := h.mem
  split at hm
  · exact .inr hm
  · exact .inl hm

/-- A cycle keeps the invariant. -/
theorem CycleEffect.inv {s t : State} (h : CycleEffect s t) (hs : s.Inv) : t.Inv where
  cfgOk := by rw [h.cfg]; exact hs.cfgOk
  memWf := by
    rcases h.mem_cases with hm | hm
    · rw [hm]; exact hs.memWf
    · exact write32_wf hs.memWf hm
  memMapped := by
    rw [h.cfg]
    rcases h.mem_cases with hm | hm
    · rw [hm]; exact hs.memMapped
    · exact write32_mappedIn hs.memMapped hm
  nxtEqCur := h.nxt
  pcAligned := by rw [h.cur, h.cfg, toNat_add_four_mod_four, fetchAddress_mod_four, hs.pcAligned]
  hiLoZero := by simpa [h.cur] using hs.hiLoZero
  idexA := by rw [h.idex]; rfl
  idexB := by rw [h.idex]; rfl
  idexImm := by rw [h.idex]; exact fun hop => if_neg hop
  exmemA := h.exmemA.trans hs.exmemA
  counters := by rw [h.instructionCount, h.cycleCount, hs.counters]
  stageWb := h.stage

/-- Settles O33: a halted core does not change, and a cycle keeps each clause. -/
theorem everyStepKeepsTheInvariant : Obligations.EveryStepKeepsTheInvariant := by
  intro s t hs h
  rcases step_next h with ⟨-, rfl⟩ | ⟨-, hc⟩
  · exact hs
  · exact (cycle_effect hc).inv hs

end Sys2Proof.Machine

/-! PROOFS. Memory: O7, O8, O9, O10 (R61 to R66, R68, R80, R121, R213). Regions share no address, so the region of the
hypothesis is the one the look-up finds, and `accessAt` says whether the access is inside it; the bytes follow from
`byteAt_setWord` and `getLsbD_wordAt`. -/

namespace Sys2Proof.Machine

/-! ### The look-up finds the one region that contains the address -/

/-- Two disjoint regions contain no address together (R60). -/
theorem not_contains_of_disjoint {r q : Region} {a : Word} (h : r.disjoint q = true) (hq : q.contains a = true) :
    r.contains a = false := by
  rw [Bool.eq_false_iff, ne_eq, Region.contains_iff]
  rw [Region.contains_iff] at hq
  simp only [Region.disjoint, Bool.or_eq_true, decide_eq_true_eq, BitVec.lt_def] at h
  omega

theorem regionOf_eq_some_of_mem {rs : List Region} {r : Region} {a : Word} (hdis : regionsDisjoint rs = true)
    (hr : r ∈ rs) (ha : r.contains a = true) : regionOf rs a = some r := by
  induction rs with
  | nil => cases hr
  | cons q rs ih =>
    simp only [regionsDisjoint, Bool.and_eq_true, List.all_eq_true] at hdis
    obtain ⟨hq, hrs⟩ := hdis
    rcases List.mem_cons.1 hr with rfl | hmem
    · exact List.find?_cons_of_pos ha
    · have hskip : q.contains a = false := not_contains_of_disjoint (hq r hmem) ha
      rw [regionOf, List.find?_cons, hskip]
      exact ih hrs hmem

theorem accessAt_of_mem {rs : List Region} {r : Region} {a : Word} (hdis : regionsDisjoint rs = true) (hr : r ∈ rs)
    (hbegin : r.beginAddr.toNat ≤ a.toNat) (hend : a.toNat ≤ r.endAddr.toNat) :
    accessAt rs a = if r.endAddr.toNat < a.toNat + 3 then .straddles else .inside := by
  rw [accessAt, regionOf_eq_some_of_mem hdis hr ((Region.contains_iff r a).2 ⟨hbegin, hend⟩)]

/-- The four bytes of the access lie in a region (R61). -/
theorem accessAt_eq_inside {rs : List Region} {r : Region} {a : Word} (hdis : regionsDisjoint rs = true) (hr : r ∈ rs)
    (hbegin : r.beginAddr.toNat ≤ a.toNat) (hend : a.toNat + 3 ≤ r.endAddr.toNat) : accessAt rs a = .inside := by
  rw [accessAt_of_mem hdis hr hbegin (by omega), if_neg (by omega)]

/-- The address is one of the last three of a region (R64). -/
theorem accessAt_eq_straddles {rs : List Region} {r : Region} {a : Word} (hdis : regionsDisjoint rs = true)
    (hr : r ∈ rs) (hbegin : r.beginAddr.toNat ≤ a.toNat) (hend : a.toNat ≤ r.endAddr.toNat)
    (hpast : r.endAddr.toNat < a.toNat + 3) : accessAt rs a = .straddles := by
  rw [accessAt_of_mem hdis hr hbegin hend, if_pos hpast]

/-- No region contains the address (R61). -/
theorem accessAt_eq_unmapped {rs : List Region} {a : Word}
    (h : ∀ r ∈ rs, ¬(r.beginAddr.toNat ≤ a.toNat ∧ a.toNat ≤ r.endAddr.toNat)) : accessAt rs a = .unmapped := by
  have hnone : regionOf rs a = none := (regionOf_none_iff rs a).2 fun r hr =>
    Bool.eq_false_iff.2 fun hc => h r hr ((Region.contains_iff r a).1 hc)
  rw [accessAt, hnone]

/-! ### `read32` and `write32` by where the access falls -/

theorem read32_of_inside {rs : List Region} {a : Word} (h : accessAt rs a = .inside) (m : Memory) :
    read32 rs m a = some (wordAt m a.toNat) := by
  rw [read32, h]

theorem write32_of_inside {rs : List Region} {a : Word} (h : accessAt rs a = .inside) (m : Memory) (v : Word) :
    write32 rs m a v = some (setWord m a.toNat v) := by
  rw [write32, h]

theorem read32_of_unmapped {rs : List Region} {a : Word} (h : accessAt rs a = .unmapped) (m : Memory) :
    read32 rs m a = some 0#32 := by
  rw [read32, h]

theorem write32_of_unmapped {rs : List Region} {a : Word} (h : accessAt rs a = .unmapped) (m : Memory) (v : Word) :
    write32 rs m a v = some m := by
  rw [write32, h]

/-! ### Writes -/

/-- Settles O7: inside a region the word is in memory at its four bytes, which `wordAt_setWord` reads back; an unmapped
address reaches no memory. -/
theorem writtenWordIsReadBack : Obligations.WrittenWordIsReadBack := by
  intro rs m a v hdis hm
  refine ⟨fun r hr hbegin hend => ?_, fun hun => ?_⟩
  · have hin := accessAt_eq_inside hdis hr hbegin hend
    exact ⟨_, write32_of_inside hin m v, by rw [read32_of_inside hin, wordAt_setWord m _ v hm]⟩
  · have hout := accessAt_eq_unmapped hun
    exact ⟨read32_of_unmapped hout m, write32_of_unmapped hout m v⟩

/-- Settles O8: the write is `setWord`, whose bytes `byteAt_setWord` gives. -/
theorem writeStoresFourLittleEndianBytes : Obligations.WriteStoresFourLittleEndianBytes := by
  intro rs m a v r hdis hm hr hbegin hend
  refine ⟨_, write32_of_inside (accessAt_eq_inside hdis hr hbegin hend) m v, ?_, ?_, ?_, ?_,
    fun k hk => byteAt_setWord_outside m _ k v hm hk⟩
  all_goals
    rw [byteAt_setWord m _ _ v hm]
    simp [byteOfWord]

/-! ### Overlapping reads -/

/-- Bit `t` of byte `q` of a word put together from four bytes (R65). -/
theorem getLsbD_wordAt_byte (m : Memory) (k : Nat) {q t : Nat} (hq : q < 4) (ht : t < 8) :
    (wordAt m k).getLsbD (8 * q + t) = (byteAt m (k + q)).getLsbD t := by
  simp only [wordAt, wordOfBytes, BitVec.getLsbD_append]
  interval_cases q
  · simp [ht]
  · simp [ht]
  · rw [if_neg (by omega), if_neg (by omega), if_pos (by omega)]
    congr 1; omega
  · rw [if_neg (by omega), if_neg (by omega), if_neg (by omega)]
    congr 1; omega

/-- Bit `i` of the word at an address is a bit of the byte `i / 8` further on (R62, R65). -/
theorem getLsbD_wordAt (m : Memory) (k : Nat) {i : Nat} (hi : i < 32) :
    (wordAt m k).getLsbD i = (byteAt m (k + i / 8)).getLsbD (i % 8) := by
  rw [← getLsbD_wordAt_byte m k (by omega) (Nat.mod_lt i (by omega)), Nat.div_add_mod]

/-- The word `d` bytes further on has in its low bits what the word has above its low `d` bytes (R66). -/
theorem extractLsb'_wordAt_add (m : Memory) (k : Nat) {d : Nat} (hd : d ≤ 3) :
    (wordAt m (k + d)).extractLsb' 0 (32 - 8 * d) = (wordAt m k).extractLsb' (8 * d) (32 - 8 * d) := by
  apply BitVec.eq_of_getLsbD_eq
  intro i hi
  have hbyte : k + (8 * d + i) / 8 = k + d + i / 8 := by omega
  have hbit : (8 * d + i) % 8 = i % 8 := by omega
  rw [BitVec.getLsbD_extractLsb', BitVec.getLsbD_extractLsb', Nat.zero_add, getLsbD_wordAt m _ (by omega),
    getLsbD_wordAt m _ (by omega), hbyte, hbit]

/-- Two reads `d` bytes apart, all of whose bytes lie in one region, agree on the bytes they share (R66). -/
theorem read32_overlap {rs : List Region} {r : Region} {a : Word} (m : Memory) (d : Nat)
    (hdis : regionsDisjoint rs = true) (hr : r ∈ rs) (hbegin : r.beginAddr.toNat ≤ a.toNat) (hd : d ≤ 3)
    (hend : a.toNat + d + 3 ≤ r.endAddr.toNat) :
    ∃ u v, read32 rs m a = some u ∧ read32 rs m (a + BitVec.ofNat 32 d) = some v ∧
      v.extractLsb' 0 (32 - 8 * d) = u.extractLsb' (8 * d) (32 - 8 * d) := by
  have haddr : (a + BitVec.ofNat 32 d).toNat = a.toNat + d := by
    have hlt := r.endAddr.isLt
    rw [BitVec.toNat_add, BitVec.toNat_ofNat]
    omega
  have hlow := accessAt_eq_inside hdis hr hbegin (by omega)
  have hhigh := accessAt_eq_inside (a := a + BitVec.ofNat 32 d) hdis hr (by omega) (by omega)
  exact ⟨_, _, read32_of_inside hlow m, haddr ▸ read32_of_inside hhigh m, extractLsb'_wordAt_add m a.toNat hd⟩

/-- Settles O9: the distances 1, 2 and 3. -/
theorem overlappingReadsAgree : Obligations.OverlappingReadsAgree := by
  intro rs m a r hdis hr hbegin
  exact ⟨read32_overlap m 1 hdis hr hbegin (by omega), read32_overlap m 2 hdis hr hbegin (by omega),
    read32_overlap m 3 hdis hr hbegin (by omega)⟩

/-! ### Straddling accesses -/

/-- An operation that stops as its access does stops at a straddling address (R64). -/
theorem EndsAs.fault_of_straddles {o : Result} {s : State} {a : Word} {P : State → Prop}
    (h : EndsAs o (straddleStop s a) P) (hstr : accessAt s.cfg.regions a = .straddles) :
    o = .fault (.straddleAccess a s.cycleNumber s.diag) := by
  rwa [straddleStop, if_pos hstr] at h

/-- A load or a store in MEM stops as its access does (R64, R213). -/
theorem exec_mem_of_straddles {i : Instr} {s : State} (hi : i.cls = .load ∨ i.cls = .store)
    (hstr : accessAt s.cfg.regions s.exmem.aluOutput = .straddles) :
    exec i (s.atStage .mem) = .fault (.straddleAccess s.exmem.aluOutput s.cycleNumber s.diag) := by
  rw [exec_mem]
  rcases hi with hi | hi <;> rw [hi]
  · exact (memLoad_endsAs (s.atStage .mem)).fault_of_straddles hstr
  · exact (memStore_endsAs (s.atStage .mem)).fault_of_straddles hstr

/-- Settles O10: at the last three bytes of a region the access straddles, and each access has a lemma that says so of
its outcome. -/
theorem straddlingAccessFaults : Obligations.StraddlingAccessFaults := by
  intro s a r hdis hr hbegin hend hpast
  have hstr := accessAt_eq_straddles hdis hr hbegin hend hpast
  refine ⟨fun m => (read32_none_iff _ m a).2 hstr, fun m v => (write32_none_iff _ m a v).2 hstr,
    fun i hi hstage ha => ?_, fun hpc => ?_⟩
  · subst ha
    have hmem : s.atStage .mem = s := by rw [State.atStage, ← hstage]
    exact hmem ▸ exec_mem_of_straddles hi hstr
  · subst hpc
    exact (ifPhase_endsAs s).fault_of_straddles hstr

end Sys2Proof.Machine

/-! PROOFS. The encoding: O2, O3, O4, O5, O6 (R65, R90 to R93, R97 to R100, R102, R109). Decode and encode are inverse on
words; the bytes of a word and the word of four bytes are inverse, so the same holds of byte lists. The class is a function
of the opcode and the opcode-0 operation one of the funct code, which are compared with the spec's tables code by code. -/

namespace Sys2Proof.Machine
open Sys2Proof.Statement

/-! ### Words -/

/-- Each constructor has a code of its own, which its format puts into the word and `decodeWord` dispatches on: the I-format
instructions by their nonzero opcode, the others by their funct code. -/
theorem decodeWord_encode (i : Instr) : decodeWord (encode i) = i := by
  cases i with
  | addi | addiu | andi | ori | xori | lui | lb | lh | lw | sb | sh | sw
  | opcode01 | opcode02 | opcode03 | opcode04 | opcode05 | opcode06 | opcode07 | opcode0a | opcode0b
  | opcode10 | opcode11 | opcode12 | opcode13 | opcode14 | opcode15 | opcode16 | opcode17
  | opcode18 | opcode19 | opcode1a | opcode1b | opcode1c | opcode1d | opcode1e | opcode1f
  | opcode22 | opcode24 | opcode25 | opcode26 | opcode27 | opcode2a | opcode2c | opcode2d | opcode2e | opcode2f
  | opcode30 | opcode31 | opcode32 | opcode33 | opcode34 | opcode35 | opcode36 | opcode37
  | opcode38 | opcode39 | opcode3a | opcode3b | opcode3c | opcode3d | opcode3e | opcode3f =>
    exact decodeWord_iWord _ _ _ _ (by decide)
  | _ => exact decodeWord_rWord _ _ _ _ _

/-- An opcode-0 word decodes by its funct code (R98, R100). -/
theorem decodeWord_of_opcode_zero {w : Word} (h : opcodeField w = 0#6) :
    decodeWord w = decodeRType (functField w) (rsField w) (rtField w) (rdField w) (shamtField w) := if_pos h

/-! ### Bytes -/

/-- Each byte of the word put together from four bytes is the one put there (R63, R65). -/
theorem byteOfWord_wordOfBytes (b0 b1 b2 b3 : Byte) {k : Nat} (hk : k < 4) :
    byteOfWord (wordOfBytes b0 b1 b2 b3) k = [b0, b1, b2, b3][k] := by
  apply BitVec.eq_of_getLsbD_eq
  intro j hj
  simp only [byteOfWord, wordOfBytes, BitVec.getLsbD_extractLsb', BitVec.getLsbD_append, hj, decide_true, Bool.true_and]
  interval_cases k <;> grind

theorem bytesOfWord_wordOfBytes (b0 b1 b2 b3 : Byte) : bytesOfWord (wordOfBytes b0 b1 b2 b3) = [b0, b1, b2, b3] := by
  simp [bytesOfWord, byteOfWord_wordOfBytes]

theorem decode_bytesOfWord_append (w : Word) (rest : List Byte) :
    decode (bytesOfWord w ++ rest) = .ok (decodeWord w, rest) := by
  simp [bytesOfWord, decode, wordOfBytes_byteOfWord]

theorem decodeTableWord_toNat (w : Word) : decodeTableWord 32 w.toNat = some (decodeWord w) := by
  have hdecode := decode_bytesOfWord_append w []
  rw [List.append_nil] at hdecode
  rw [decodeTableWord, Nat.mod_eq_of_lt w.isLt, BitVec.ofNat_toNat, BitVec.setWidth_eq, hdecode]

/-- Settles O2: the word by constructor; the bytes and the numbered bits by what they say of the word. -/
theorem decodeOfEncodeIsTheInstruction : Obligations.DecodeOfEncodeIsTheInstruction := by
  intro i
  refine ⟨decodeWord_encode i, ?_, fun rest => ?_⟩
  · rw [decodeTableWord_toNat, decodeWord_encode]
  · rw [encodeBytes, decode_bytesOfWord_append, decodeWord_encode]

theorem decode_of_length_lt {bs : List Byte} (h : bs.length < 4) : decode bs = .error (.truncated bs.length) := by
  match bs, h with
  | [], _ => rfl
  | [_], _ => rfl
  | [_, _], _ => rfl
  | [_, _, _], _ => rfl

/-- Four bytes or more decode to the instruction of their first word (R90, R109). -/
theorem exists_decode_eq_of_length_ge {bs : List Byte} (h : 4 ≤ bs.length) :
    ∃ w rest, bs = bytesOfWord w ++ rest ∧ decode bs = .ok (decodeWord w, rest) := by
  match bs, h with
  | b0 :: b1 :: b2 :: b3 :: rest, _ =>
    exact ⟨wordOfBytes b0 b1 b2 b3, rest, by simp [bytesOfWord_wordOfBytes], rfl⟩

/-- Settles O3: bytes that decode are the bytes of a word and the rest, and encoding gives that word back. -/
theorem encodeOfDecodeIsTheWord : Obligations.EncodeOfDecodeIsTheWord := by
  refine ⟨encode_decodeWord, fun bs rest i h => ?_⟩
  rcases Nat.lt_or_ge bs.length 4 with hlen | hlen
  · rw [decode_of_length_lt hlen] at h
    cases h
  · obtain ⟨w, rest', hbs, hw⟩ := exists_decode_eq_of_length_ge hlen
    rw [hw] at h
    cases h
    rw [hbs, encodeBytes, encode_decodeWord]

/-- Settles O4: fewer than four bytes are rejected, and four or more decode. -/
theorem decodeRejectsOnlyTooFewBytes : Obligations.DecodeRejectsOnlyTooFewBytes := by
  refine fun bs => ⟨fun ⟨n, h⟩ => ?_, fun hlen => ⟨_, decode_of_length_lt hlen⟩⟩
  by_contra hlen
  obtain ⟨w, rest, -, hw⟩ := exists_decode_eq_of_length_ge (Nat.le_of_not_lt hlen)
  rw [hw] at h
  cases h

/-! ### What the codes select -/

/-- The class that R97 gives to an opcode. -/
def opcodeClass (op : Code) : InstrClass :=
  if op = 0x00#6 then .rType
  else if op ∈ [0x08#6, 0x09#6] then .addImm
  else if op ∈ [0x0c#6, 0x0d#6, 0x0e#6] then .logicImm
  else if op ∈ loadCodes then .load
  else if op ∈ storeCodes then .store
  else .other

/-- An instruction's class is that of the opcode of its word. -/
theorem cls_eq_opcodeClass (i : Instr) : i.cls = opcodeClass (opcodeField (encode i)) := by
  cases i <;> simp only [encode, opcodeField_rWord, opcodeField_iWord] <;> rfl

/-- Settles O5: the class is `opcodeClass` of the opcode, which has the sets of R97 and R99 code by code. -/
theorem opcodeSelectsTheClass : Obligations.OpcodeSelectsTheClass := by
  intro w
  rw [cls_eq_opcodeClass, encode_decodeWord]
  generalize opcodeField w = op
  revert op
  exact forall_code _ (by decide)

/-- The R-type decoder gives an unlisted instruction for exactly the codes that R98 does not list. -/
theorem isUnlisted_decodeRType (f : Code) (rs rt rd : RegIdx) (sh : Shamt) :
    (decodeRType f rs rt rd sh).isUnlisted = decide (f ∉ listedFuncts) := by
  refine forall_code (fun f => (decodeRType f rs rt rd sh).isUnlisted = decide (f ∉ listedFuncts)) (fun n => ?_) f
  fin_cases n <;> rfl

/-- Settles O6: an opcode-0 word decodes by its funct code; each listed code is one arm of the R-type decoder. -/
theorem functSelectsTheOperation : Obligations.FunctSelectsTheOperation := by
  intro w hop
  dsimp only
  rw [decodeWord_of_opcode_zero hop, isUnlisted_decodeRType, decide_eq_true_iff]
  generalize functField w = f
  refine ⟨?_, ?_, ?_, ?_, ?_, ?_, ?_, ?_, ?_, ?_, ?_, ?_, ?_, ?_, ?_, ?_, ?_, ?_, Iff.rfl⟩ <;>
    · rintro rfl
      rfl

end Sys2Proof.Machine

/-! PROOFS. Fetch and decode: O1, O19, O20, O41 (R97, R121, R123, R125, R126). `CycleEffect` says what a completed cycle
leaves in the PC, IF/ID and ID/EX, and `exec_id_eq` what ID does for an instruction; the statements are read off from them. -/

namespace Sys2Proof.Machine
open Sys2Proof.Statement

theorem State.atStage_eq_self {s : State} {g : Stage} (h : s.stage = g) : s.atStage g = s := by
  rw [State.atStage, ← h]

/-- The instruction of a word is the one that encodes to it. -/
theorem decodeWord_of_encode_eq {w : Word} {i : Instr} (h : encode i = w) : decodeWord w = i :=
  h ▸ decodeWord_encode i

/-- Settles O19: the address is `fetchAddress`, from which a completed cycle has fetched and past which it has moved the PC. -/
theorem fetchGoesPastABumpingSll : Obligations.FetchGoesPastABumpingSll := by
  intro s t hr h
  have e := step_effect hr h
  obtain ⟨w, hread, hifid⟩ := e.ifid
  change t.ifid.pc = fetchAddress s ∧ read32 s.cfg.regions t.mem (fetchAddress s) = some t.ifid.ir ∧
    t.cur.pc = fetchAddress s + 4
  exact ⟨by rw [hifid], by rw [hifid, hread], by rw [e.cur]⟩

/-- Settles O20: ID/EX after a completed cycle is `decodedLatch` of the word that IF/ID held, which has these fields. -/
theorem decodeFillsIdEx : Obligations.DecodeFillsIdEx := by
  intro s t hr h
  rw [(step_effect hr h).idex]
  exact ⟨rfl, rfl, rfl, rfl⟩

/-- Settles O41: `exec_id_eq` takes the 127 constructors to the two forms of ID; opcode 0 holds the immediate, every other
opcode writes it. -/
theorem decodeStageOfEveryInstruction : Obligations.DecodeStageOfEveryInstruction := by
  intro i s hstage
  have hid := exec_id_eq i s
  rw [State.atStage_eq_self hstage] at hid
  rw [hid]
  by_cases hop : opcodeField (encode i) = 0#6
  · rw [if_pos hop, if_pos hop]
    rfl
  · rw [if_neg hop, if_neg hop]
    rfl

/-- Settles O1: each instruction, put together from its codes and fields, is the word that the spec writes out. -/
theorem wordsOfTheSpecDecode : Obligations.WordsOfTheSpecDecode := by
  refine ⟨?_, ?_, ?_, ?_, ?_, ?_, ?_, ?_, ?_, ?_, ?_, ?_⟩ <;>
    exact decodeWord_of_encode_eq (by decide)

end Sys2Proof.Machine

/-! PROOFS. EX of the R-type instructions: O25, O29, O46 to O56 (R98, R140 to R160, R187, R223, R256). An R-type
instruction in EX is its arm after `EXMEM.IR` is written, and each arm is described once; what the arms leave in EX/MEM is
then collected for every word and carried to the end of the cycle. -/

namespace Sys2Proof.Machine
open Sys2Proof.Statement

/-! ### An R-type instruction in EX is its arm -/

theorem hasFunct_of_encode {i : Instr} {rs rt rd : RegIdx} {sh : Shamt} {f : Code}
    (h : encode i = rWord rs rt rd sh f) : HasFunct i f := by
  simp [HasFunct, h]

theorem rTypePath_ex {s : State} (h : s.stage = .ex) (ex : State → Result) (rs rt rd : RegIdx) :
    rTypePath ex rs rt rd s = ex s.exIr := by
  rw [rTypePath, h]

@[simp] theorem State.exIr_x (s : State) (i : RegIdx) : s.exIr.x i = s.x i := rfl
@[simp] theorem State.exIr_opA (s : State) : s.exIr.opA = s.opA := rfl
@[simp] theorem State.exIr_opB (s : State) : s.exIr.opB = s.opB := rfl

theorem exIr_eq_aluHeld (s : State) : s.exIr = aluHeld s := rfl

/-- An unguarded operation in EX writes its value (R143 to R148, R155, R156). -/
theorem rTypePath_exAlu {s : State} (h : s.stage = .ex) (v : State → Word) (rs rt rd : RegIdx) :
    rTypePath (exAlu v) rs rt rd s = .next (aluWritten s (v s.exIr)) :=
  rTypePath_ex h ..

/-- A guarded operation in EX with `rd` not 0 is its arm (R151). -/
theorem rTypePath_exGuarded_of_ne {s : State} (h : s.stage = .ex) {rd : RegIdx} (hrd : rd ≠ 0#5) (arm : State → State)
    (rs rt : RegIdx) : rTypePath (exGuarded rd arm) rs rt rd s = .next (arm s.exIr) := by
  rw [rTypePath_ex h, exGuarded, if_neg hrd]

/-- A guarded operation in EX with `rd` 0 holds ALUOutput (R151). -/
theorem rTypePath_exGuarded_zero {s : State} (h : s.stage = .ex) {rd : RegIdx} (hrd : rd = 0#5) (arm : State → State)
    (rs rt : RegIdx) : rTypePath (exGuarded rd arm) rs rt rd s = .next (aluHeld s) := by
  rw [rTypePath_ex h, exGuarded, if_pos hrd, exIr_eq_aluHeld]

/-! ### The values -/

/-- The register number that a word holds, by the word's value (R141). -/
theorem wordIdx_eq_ofNat (w : Word) : wordIdx w = BitVec.ofNat 5 w.toNat :=
  BitVec.eq_of_toNat_eq (by simp [wordIdx])

/-- The low word of the product of the unsigned readings (R156). -/
theorem ofNat_toNat_mul (a b : Word) : BitVec.ofNat 32 (a.toNat * b.toNat) = a * b := by
  simp [BitVec.ofNat_mul]

/-- The low word of the product of the signed readings is the same (R155). -/
theorem ofInt_toInt_mul (a b : Word) : BitVec.ofInt 32 (a.toInt * b.toInt) = a * b := by
  simp [BitVec.ofInt_mul]

theorem ofNat_toNat_div (a b : Word) : BitVec.ofNat 32 (a.toNat / b.toNat) = a.udiv b :=
  BitVec.eq_of_toNat_eq (Nat.mod_eq_of_lt (Nat.lt_of_le_of_lt (Nat.div_le_self ..) a.isLt))

theorem ofInt_toInt_tdiv (a b : Word) : BitVec.ofInt 32 (a.toInt.tdiv b.toInt) = a.sdiv b :=
  BitVec.eq_of_toInt_eq (by rw [BitVec.toInt_ofInt, BitVec.toInt_sdiv])

/-! ### The statements about one instruction -/

/-- The arm of `add` and `addu` in EX, for each value of `ADD_RT_INDIRECT` (R141, R142). -/
theorem exAdd_exIr (s : State) :
    (s.cfg.addRtIndirect = false → exAdd s.exIr = .next (aluWritten s (s.opA + s.opB))) ∧
    (s.cfg.addRtIndirect = true → s.opB.toNat < 32 →
      exAdd s.exIr = .next (aluWritten s (s.opA + s.x (BitVec.ofNat 5 s.opB.toNat)))) ∧
    (s.cfg.addRtIndirect = true → 32 ≤ s.opB.toNat →
      exAdd s.exIr = .fault (.indirectIndex (s.cycleCount.toNat + 1) s.diag)) := by
  rw [← wordIdx_eq_ofNat]
  refine ⟨fun hind => ?_, fun hind hlt => ?_, fun hind hge => ?_⟩
  · rw [exAdd, State.exIr_cfg, if_neg (by simp [hind])]
    rfl
  · rw [exAdd, State.exIr_cfg, if_pos hind, State.exIr_opB, if_pos hlt]
    rfl
  · rw [exAdd, State.exIr_cfg, if_pos hind, State.exIr_opB, if_neg (Nat.not_lt.2 hge)]
    rfl

/-- Settles O46: both are the same arm. -/
theorem addWritesTheSum : Obligations.AddWritesTheSum := by
  intro rs rt rd sh s hex
  refine ⟨hasFunct_of_encode rfl, hasFunct_of_encode rfl, fun i hi => ?_⟩
  have harm : exec i s = exAdd s.exIr := by
    rcases List.mem_pair.1 hi with rfl | rfl
    · exact rTypePath_ex hex ..
    · exact rTypePath_ex hex ..
  rw [harm]
  exact exAdd_exIr s

/-- Settles O47: the unguarded arm writes `a - b`. -/
theorem subtractWritesTheDifference : Obligations.SubtractWritesTheDifference := by
  intro rs rt rd sh s hex
  exact ⟨hasFunct_of_encode rfl, hasFunct_of_encode rfl, rTypePath_exAlu hex .., rTypePath_exAlu hex ..⟩

/-- Settles O48: the unguarded arm writes the bitwise result. -/
theorem logicalOperationsWriteTheBitwiseResult : Obligations.LogicalOperationsWriteTheBitwiseResult := by
  intro rs rt rd sh s hex
  exact ⟨hasFunct_of_encode rfl, hasFunct_of_encode rfl, hasFunct_of_encode rfl, hasFunct_of_encode rfl,
    rTypePath_exAlu hex .., rTypePath_exAlu hex .., rTypePath_exAlu hex .., rTypePath_exAlu hex ..⟩

/-- Settles O49: the guard of R151, then the comparison as a word. -/
theorem setLessThanWritesOneOrZero : Obligations.SetLessThanWritesOneOrZero := by
  intro rs rt rd sh s hex
  refine ⟨hasFunct_of_encode rfl, hasFunct_of_encode rfl, fun hrd => ⟨?_, ?_⟩, fun hrd => ⟨?_, ?_⟩⟩
  · exact rTypePath_exGuarded_of_ne hex hrd ..
  · exact rTypePath_exGuarded_of_ne hex hrd ..
  · exact rTypePath_exGuarded_zero hex hrd ..
  · exact rTypePath_exGuarded_zero hex hrd ..

/-- Settles O50: the shift and the second increment of the PC both stand under the guard of R151. -/
theorem shiftLeftAlsoBumpsThePc : Obligations.ShiftLeftAlsoBumpsThePc := by
  intro rs rt rd sh s hex
  exact ⟨hasFunct_of_encode rfl, fun hrd => rTypePath_exGuarded_of_ne hex hrd ..,
    fun hrd => rTypePath_exGuarded_zero hex hrd ..⟩

/-- Settles O51: the guard of R151, then the shift, which does not touch the PC. -/
theorem rightShiftsWriteTheShiftedValue : Obligations.RightShiftsWriteTheShiftedValue := by
  intro rs rt rd sh s hex
  refine ⟨hasFunct_of_encode rfl, hasFunct_of_encode rfl, fun hrd => ⟨?_, ?_⟩, fun hrd => ⟨?_, ?_⟩⟩
  · exact rTypePath_exGuarded_of_ne hex hrd ..
  · exact rTypePath_exGuarded_of_ne hex hrd ..
  · exact rTypePath_exGuarded_zero hex hrd ..
  · exact rTypePath_exGuarded_zero hex hrd ..

/-- Settles O52: the unguarded arm writes the product modulo 2^32, which both readings of the operands give. -/
theorem multiplyWritesTheLowWord : Obligations.MultiplyWritesTheLowWord := by
  intro rs rt rd sh s hex
  refine ⟨hasFunct_of_encode rfl, hasFunct_of_encode rfl, fun i hi => ?_⟩
  rw [ofNat_toNat_mul, ofInt_toInt_mul, and_self]
  rcases List.mem_pair.1 hi with rfl | rfl
  · exact rTypePath_exAlu hex ..
  · exact rTypePath_exAlu hex ..

/-- By zero, `div` and `divu` emit the diagnostic and hold ALUOutput (R157, R159, R256). -/
theorem exDiv_exIr_zero {s : State} (hb : s.opB = 0#32) (signed : Bool) : exDiv signed s.exIr =
    .next { aluHeld s with diag := s.diag ++ [⟨s.cycleCount.toNat + 1, .divByZero⟩] } := by
  rw [exDiv, State.exIr_opB, if_pos hb]
  rfl

/-- The unsigned quotient (R157, R159). -/
theorem exDiv_exIr_unsigned {s : State} (hb : s.opB ≠ 0#32) :
    exDiv false s.exIr = .next (aluWritten s (BitVec.ofNat 32 (s.opA.toNat / s.opB.toNat))) := by
  rw [exDiv, State.exIr_opB, if_neg hb, if_neg Bool.false_ne_true, ofNat_toNat_div]
  rfl

/-- The signed quotient, where it fits (R157). -/
theorem exDiv_exIr_signed {s : State} (hb : s.opB ≠ 0#32)
    (hfits : ¬(s.opA = 0x80000000#32 ∧ s.opB = 0xFFFFFFFF#32)) :
    exDiv true s.exIr = .next (aluWritten s (BitVec.ofInt 32 (s.opA.toInt.tdiv s.opB.toInt))) := by
  rw [exDiv, State.exIr_opB, if_neg hb, if_pos rfl, State.exIr_opA,
    if_neg (show ¬(s.opA = BitVec.intMin 32 ∧ s.opB = BitVec.allOnes 32) from hfits), ofInt_toInt_tdiv]
  rfl

/-- The one signed quotient that does not fit (R157). -/
theorem exDiv_exIr_overflow {s : State} (ha : s.opA = 0x80000000#32) (hb : s.opB = 0xFFFFFFFF#32) :
    exDiv true s.exIr = .fault (.divOverflow (s.cycleCount.toNat + 1) s.diag) := by
  rw [exDiv, State.exIr_opB, hb, if_neg (by decide), if_pos rfl, State.exIr_opA, if_pos ⟨ha, rfl⟩]
  rfl

/-- Settles O53: the arm of division with the signedness that `DIV_SIGNED` gives. -/
theorem divWritesTheQuotient : Obligations.DivWritesTheQuotient := by
  intro rs rt rd sh s hex
  have harm : exec (.div rs rt rd sh) s = exDiv s.cfg.divSigned s.exIr := rTypePath_ex hex ..
  rw [harm]
  refine ⟨hasFunct_of_encode rfl, fun hb => exDiv_exIr_zero hb _, fun hb hu => ?_, fun hb hs hfits => ?_,
    fun hs ha hb => ?_⟩
  · rw [hu]
    exact exDiv_exIr_unsigned hb
  · rw [hs]
    exact exDiv_exIr_signed hb hfits
  · rw [hs]
    exact exDiv_exIr_overflow ha hb

/-- Settles O54: the unsigned arm of division. -/
theorem divuWritesTheUnsignedQuotient : Obligations.DivuWritesTheUnsignedQuotient := by
  intro rs rt rd sh s hex
  have harm : exec (.divu rs rt rd sh) s = exDiv false s.exIr := rTypePath_ex hex ..
  rw [harm]
  exact ⟨hasFunct_of_encode rfl, fun hb => exDiv_exIr_zero hb _, exDiv_exIr_unsigned⟩

/-- Settles O55: the arm tests the whole word `x[2]` against `haltCode`, which is 10. -/
theorem syscallHaltsOnTen : Obligations.SyscallHaltsOnTen := by
  intro rs rt rd sh s hex
  have harm : exec (.syscall rs rt rd sh) s = exSyscall s.exIr := rTypePath_ex hex ..
  rw [harm, exSyscall, State.exIr_x]
  refine ⟨hasFunct_of_encode rfl, fun hx => ?_, fun hx => ?_⟩
  · rw [if_pos (show s.x 2#5 = haltCode from hx)]
    rfl
  · rw [if_neg (show s.x 2#5 ≠ haltCode from hx)]
    rfl

/-- An unlisted instruction has an R-format word with a funct code that R98 does not list, and the arm that writes
nothing. -/
theorem unlisted_spec {i : Instr} (hi : i.isUnlisted = true) : ∃ rs rt rd sh f,
    encode i = rWord rs rt rd sh f ∧ f ∉ listedFuncts ∧ ∀ s, exec i s = unlistedPath rs rt rd s := by
  cases i with
  | funct01 | funct04 | funct05 | funct06 | funct07 | funct08 | funct09 | funct0a | funct0b | funct0d | funct0e | funct0f
  | funct10 | funct11 | funct12 | funct13 | funct14 | funct15 | funct16 | funct17 | funct1c | funct1d | funct1e | funct1f
  | funct28 | funct29 | funct2c | funct2d | funct2e | funct2f
  | funct30 | funct31 | funct32 | funct33 | funct34 | funct35 | funct36 | funct37
  | funct38 | funct39 | funct3a | funct3b | funct3c | funct3d | funct3e | funct3f =>
    exact ⟨_, _, _, _, _, rfl, by decide, fun _ => rfl⟩
  | _ => cases hi

/-- Settles O56: the code is read off the word, and the arm is `exNothing`. -/
theorem unlistedFunctsWriteOnlyTheWord : Obligations.UnlistedFunctsWriteOnlyTheWord := by
  intro i s hi hex
  obtain ⟨rs, rt, rd, sh, f, hword, hf, hexec⟩ := unlisted_spec hi
  rw [hexec, hword, opcodeField_rWord, functField_rWord]
  exact ⟨rfl, hf, rTypePath_ex hex ..⟩

/-! ### EX/MEM after EX -/

/-- ID/EX holds the fields of the word `w`, as ID left them (R125, R180). -/
structure LatchedFields (l : IdEx) (w : Word) : Prop where
  a : wordIdx l.a = rsField w
  b : wordIdx l.b = rtField w
  imm : opcodeField w ≠ 0#6 → l.imm = sext32 (immField w)

/-- What EX of the word `w` from `s` has put into EX/MEM of `t`, the registers it reads being `x`: the store value of the
catch-all arm, and the result, which is that of the word if the latch holds its fields. -/
structure ExMemWritten (s : State) (x : RegIdx → Word) (w : Word) (t : State) : Prop where
  storeValue : t.exmem.b =
    if opcodeField w ∈ loadCodes ++ storeCodes ++ otherCodes then x (wordIdx s.idex.b) else s.exmem.b
  result : LatchedFields s.idex w → t.exmem.aluOutput = (aluResult s.cfg x w).getD s.exmem.aluOutput

/-- What EX has put into EX/MEM is a matter of the parameters, ID/EX and EX/MEM before it. -/
theorem ExMemWritten.congr {s s' t t' : State} {x : RegIdx → Word} {w : Word} (h : ExMemWritten s x w t)
    (hcfg : s.cfg = s'.cfg) (hidex : s.idex = s'.idex) (hexmem : s.exmem = s'.exmem) (ht : t'.exmem = t.exmem) :
    ExMemWritten s' x w t' := by
  obtain ⟨hb, hv⟩ := h
  rw [hidex, hexmem] at hb
  rw [hcfg, hidex, hexmem] at hv
  exact ⟨ht ▸ hb, ht ▸ hv⟩

/-- An R-type arm holds the store value (R140). -/
theorem ExMemWritten.of_rWord {s t : State} {rs rt rd : RegIdx} {sh : Shamt} {f : Code} (hb : t.exmem.b = s.exmem.b)
    (hv : s.opA = s.x rs → s.opB = s.x rt →
      t.exmem.aluOutput = (aluResult s.cfg s.x (rWord rs rt rd sh f)).getD s.exmem.aluOutput) :
    ExMemWritten s s.x (rWord rs rt rd sh f) t where
  storeValue := by
    rw [opcodeField_rWord, if_neg (by decide), hb]
  result hl := hv (congrArg s.x (hl.a.trans (rsField_rWord ..))) (congrArg s.x (hl.b.trans (rtField_rWord ..)))

/-- The immediate operations hold the store value (R181 to R185). -/
theorem ExMemWritten.of_iWord {s t : State} {op : Code} {rs rt : RegIdx} {imm : Half} (hop : op ≠ 0#6)
    (hplain : op ∉ loadCodes ++ storeCodes ++ otherCodes) (hb : t.exmem.b = s.exmem.b)
    (hv : s.opA = s.x rs → s.idex.imm = sext32 imm →
      t.exmem.aluOutput = (aluResult s.cfg s.x (iWord op rs rt imm)).getD s.exmem.aluOutput) :
    ExMemWritten s s.x (iWord op rs rt imm) t where
  storeValue := by rw [opcodeField_iWord, if_neg hplain, hb]
  result hl := by
    have himm := hl.imm (by rwa [opcodeField_iWord])
    rw [immField_iWord] at himm
    exact hv (congrArg s.x (hl.a.trans (rsField_iWord ..))) himm

/-- The opcodes of the catch-all arm are neither 0 nor those of the logical immediates. -/
theorem catchAll_ne : ∀ op ∈ loadCodes ++ storeCodes ++ otherCodes,
    op ≠ 0x00#6 ∧ op ≠ 0x0c#6 ∧ op ≠ 0x0d#6 ∧ op ≠ 0x0e#6 := by
  decide

/-- The result of a word of the catch-all arm is the sum (R187). -/
theorem aluResult_iWord_of_catchAll {op : Code} (hop : op ∈ loadCodes ++ storeCodes ++ otherCodes) (cfg : Config)
    (x : RegIdx → Word) (rs rt : RegIdx) (imm : Half) :
    aluResult cfg x (iWord op rs rt imm) = some (x rs + sext32 imm) := by
  obtain ⟨h0, hc, hd, he⟩ := catchAll_ne op hop
  simp [aluResult, h0, hc, hd, he, sext32]

/-- The catch-all arm captures the store value (R187). -/
theorem ExMemWritten.of_exCatchAll {s t : State} {op : Code} {rs rt : RegIdx} {imm : Half}
    (hop : op ∈ loadCodes ++ storeCodes ++ otherCodes) (h : exCatchAll (s.atStage .ex).exIr = .next t) :
    ExMemWritten s s.x (iWord op rs rt imm) t := by
  obtain rfl := exCatchAll_next h
  refine ⟨?_, fun hl => ?_⟩
  · rw [opcodeField_iWord, if_pos hop]
    rfl
  · obtain ⟨h0, -⟩ := catchAll_ne op hop
    have ha : s.opA = s.x rs := congrArg s.x (hl.a.trans (rsField_iWord ..))
    have himm := hl.imm (by rwa [opcodeField_iWord])
    rw [immField_iWord] at himm
    rw [aluResult_iWord_of_catchAll hop, Option.getD_some, ← ha, ← himm]
    rfl

/-- The guarded arms (R151). -/
theorem ExMemWritten.ite {p : Prop} [Decidable p] {s t u : State} {x : RegIdx → Word} {w : Word}
    (ht : p → ExMemWritten s x w t) (hu : ¬p → ExMemWritten s x w u) : ExMemWritten s x w (if p then t else u) := by
  split
  · next hp => exact ht hp
  · next hp => exact hu hp

/-- The low half of a sign-extended immediate is the immediate (R8, R183). -/
theorem extractLsb'_signExtend (h : Half) : (h.signExtend 32).extractLsb' 0 16 = h := by
  refine BitVec.eq_of_getLsbD_eq fun i hi => ?_
  have hi' : i < 32 := by omega
  rw [BitVec.getLsbD_extractLsb', BitVec.getLsbD_signExtend]
  simp [hi, hi']

@[simp] theorem State.atStage_x (s : State) (g : Stage) (i : RegIdx) : (s.atStage g).x i = s.x i := rfl
@[simp] theorem State.atStage_opA (s : State) (g : Stage) : (s.atStage g).opA = s.opA := rfl
@[simp] theorem State.atStage_opB (s : State) (g : Stage) : (s.atStage g).opB = s.opB := rfl

/-- EX of every instruction leaves in EX/MEM what its word asks. -/
theorem exec_ex_exMemWritten {i : Instr} {s t : State} (h : exec i (s.atStage .ex) = .next t) :
    ExMemWritten s s.x (encode i) t := by
  cases i with
  | add | addu =>
    rcases exAdd_next h with ⟨hind, rfl⟩ | ⟨hind, -, rfl⟩
    · exact .of_rWord rfl fun ha hb => by
        simp [aluResult, ha, hb, show s.cfg.addRtIndirect = false from hind]
    · exact .of_rWord rfl fun ha hb => by
        simp [aluResult, ha, hb, wordIdx_eq_ofNat, show s.cfg.addRtIndirect = true from hind]
  | sub | subu | and | or | xor | nor | mult | multu =>
    cases h
    exact .of_rWord rfl fun ha hb => by simp [aluResult, ha, hb, ofNat_toNat_mul]
  | slt | sltu | sll | srl | sra =>
    cases h
    refine .ite (fun hrd => .of_rWord rfl fun ha hb => ?_) (fun hrd => .of_rWord rfl fun ha hb => ?_)
    · simp [aluResult, hrd]
    · simp [aluResult, hrd, ha, hb, setLessSigned, setLessUnsigned]
  | div =>
    rcases exDiv_next h with ⟨h0, rfl⟩ | ⟨h0, hsigned, rfl⟩ | ⟨h0, hsigned, rfl⟩
    · exact .of_rWord rfl fun ha hb => by
        simp [aluResult, ← hb, show s.opB = 0#32 from h0]
    · exact .of_rWord rfl fun ha hb => by
        simp [aluResult, ← ha, ← hb, ofInt_toInt_tdiv, show s.opB ≠ 0#32 from h0,
          show s.cfg.divSigned = true from hsigned]
    · exact .of_rWord rfl fun ha hb => by
        simp [aluResult, ← ha, ← hb, ofNat_toNat_div, show s.opB ≠ 0#32 from h0,
          show s.cfg.divSigned = false from hsigned]
  | divu =>
    rcases exDiv_next h with ⟨h0, rfl⟩ | ⟨-, hsigned, -⟩ | ⟨h0, -, rfl⟩
    · exact .of_rWord rfl fun ha hb => by
        simp [aluResult, ← hb, show s.opB = 0#32 from h0]
    · cases hsigned
    · exact .of_rWord rfl fun ha hb => by
        simp [aluResult, ← ha, ← hb, ofNat_toNat_div, show s.opB ≠ 0#32 from h0]
  | syscall =>
    rcases exSyscall_next h with ⟨-, rfl⟩ | ⟨-, rfl⟩
    · exact .of_rWord rfl fun ha hb => by simp [aluResult]
    · exact .of_rWord rfl fun ha hb => by simp [aluResult]
  | addi | addiu | andi | ori | xori =>
    cases h
    exact .of_iWord (by decide) (by decide) rfl fun ha himm => by
      simp [aluResult, ha, himm, State.immSigned, State.immZero, extractLsb'_signExtend, zext32, sext32]
  | lui | lb | lh | lw | sb | sh | sw
  | opcode01 | opcode02 | opcode03 | opcode04 | opcode05 | opcode06 | opcode07 | opcode0a | opcode0b
  | opcode10 | opcode11 | opcode12 | opcode13 | opcode14 | opcode15 | opcode16 | opcode17
  | opcode18 | opcode19 | opcode1a | opcode1b | opcode1c | opcode1d | opcode1e | opcode1f
  | opcode22 | opcode24 | opcode25 | opcode26 | opcode27 | opcode2a | opcode2c | opcode2d | opcode2e | opcode2f
  | opcode30 | opcode31 | opcode32 | opcode33 | opcode34 | opcode35 | opcode36 | opcode37
  | opcode38 | opcode39 | opcode3a | opcode3b | opcode3c | opcode3d | opcode3e | opcode3f =>
    exact .of_exCatchAll (by decide) h
  | _ =>
    cases h
    exact .of_rWord rfl fun ha hb => by simp [aluResult]

/-! ### EX/MEM after the cycle -/

/-- WB and MEM before EX leave EX/MEM as it was, and ID and IF after it leave what it wrote (R241). -/
theorem cycle_exMemWritten {s t : State} (h : cycle s = .next t) : ExMemWritten s (exRegister s) s.idex.ir t := by
  obtain ⟨s1, s2, s3, s4, s5, hwb, hmem, hex, hid, hif, rfl⟩ := cycle_next h
  have before_mem : BeforeMem s s1 := (wbPhase_endsAs s).of_next hwb
  have before_ex : BeforeEx s s2 := (memPhase_of_beforeMem before_mem).of_next hmem
  have hs2 : s2.exmem = s.exmem := by
    obtain ⟨l, m, rfl, -⟩ := memPhase_next hmem
    exact before_mem.exmem
  have hs3 := exec_ex_exMemWritten hex
  rw [encode_decodeWord, before_ex.reads, before_ex.idex] at hs3
  obtain rfl := idPhase_next hid
  obtain ⟨w, -, rfl⟩ := ifPhase_next hif
  exact hs3.congr before_ex.cfg before_ex.idex hs2 rfl

/-- Settles O25: EX/MEM after a completed cycle is as EX wrote it. -/
theorem storeValueIsCapturedByTheCatchAllArm : Obligations.StoreValueIsCapturedByTheCatchAllArm := by
  intro s t hr h
  have e := step_effect hr h
  rw [e.readInCycle_eq]
  exact ⟨e.exmemIr, (cycle_exMemWritten (step_running hr ▸ h)).storeValue⟩

theorem latchedFields_of_inv {s : State} (hs : s.Inv) : LatchedFields s.idex s.idex.ir where
  a := by rw [hs.idexA, wordIdx_idxWord]
  b := by rw [hs.idexB, wordIdx_idxWord]
  imm := hs.idexImm

/-- A completed cycle acts on the registers as EX reads them, whichever generation they are of (R140). -/
theorem exActsOn_exRegister {s t : State} (hs : s.Inv) (hr : s.running = true) (h : step s = .next t) :
    ExActsOn s t (exRegister s) := by
  have e := step_effect hr h
  have written := cycle_exMemWritten (step_running hr ▸ h)
  have hl := latchedFields_of_inv hs
  refine ⟨written.result hl, ?_, ?_, ?_⟩
  · rw [← hl.b]
    exact written.storeValue
  · rw [← e.readInCycle_eq]
    exact onlyAHaltingSyscallStopsTheCore s t hr h
  · rw [← hl.b]
    exact e.diag

/-- Settles O29: EX reads `exRegister`, which is the register file of the named generation. -/
theorem operandsComeFromTheNamedGeneration : Obligations.OperandsComeFromTheNamedGeneration := by
  intro s t hs hr h
  have acts := exActsOn_exRegister hs hr h
  refine ⟨fun hgen => ?_, fun hgen => ?_⟩
  · have hreads : exRegister s = s.cur.reg := funext fun i => by rw [exRegister, hgen]
    rwa [hreads] at acts
  · have hreads : exRegister s = t.cur.reg := funext fun i => by
      rw [← (step_effect hr h).readInCycle_eq, readInCycle, hgen]
    rwa [hreads] at acts

end Sys2Proof.Machine

/-! PROOFS. EX of the instructions with an immediate: O57, O58, O59 (R99, R181 to R185, R187). ADD-IMM and LOGIC-IMM write
one value, and a LOAD, a STORE or an OTHER opcode is the catch-all arm; which opcodes these are is O5. -/

namespace Sys2Proof.Machine
open Sys2Proof.Statement

theorem hasOpcode_of_encode {i : Instr} {op : Code} {rs rt : RegIdx} {imm : Half} (h : encode i = iWord op rs rt imm) :
    HasOpcode i op := by
  rw [HasOpcode, h, opcodeField_iWord]

/-- ADD-IMM and LOGIC-IMM in EX write their value (R181 to R185). -/
theorem immPath_ex {s : State} (h : s.stage = .ex) (v : State → Word) (rs rt : RegIdx) (imm : Half) :
    immPath v rs rt imm s = .next (aluWritten s (v s.exIr)) := by
  rw [immPath, h]
  rfl

/-- Settles O57: both write `a + imm`, the immediate as ID/EX holds it. -/
theorem addImmediateWritesTheSum : Obligations.AddImmediateWritesTheSum := by
  intro rs rt imm s hex
  exact ⟨hasOpcode_of_encode rfl, hasOpcode_of_encode rfl, immPath_ex hex .., immPath_ex hex ..⟩

/-- Settles O58: the second operand is `immZero`, which is the zero-extension of the statement. -/
theorem logicalImmediateZeroExtends : Obligations.LogicalImmediateZeroExtends := by
  intro rs rt imm s hex
  exact ⟨hasOpcode_of_encode rfl, hasOpcode_of_encode rfl, hasOpcode_of_encode rfl,
    immPath_ex hex .., immPath_ex hex .., immPath_ex hex ..⟩

/-- The classes of the catch-all arm are those of its opcodes (R97, R99). -/
theorem opcodeField_encode_mem_catchAll {i : Instr} (hi : i.cls = .load ∨ i.cls = .store ∨ i.cls = .other) :
    opcodeField (encode i) ∈ loadCodes ++ storeCodes ++ otherCodes := by
  have hclass := opcodeSelectsTheClass (encode i)
  rw [decodeWord_encode] at hclass
  obtain ⟨-, -, -, hload, hstore, hother⟩ := hclass
  rw [List.append_assoc, List.mem_append, List.mem_append]
  exact hi.imp hload.1 (Or.imp hstore.1 hother.1)

/-- A LOAD, a STORE and an OTHER opcode in EX are the catch-all arm; the other constructors are of no such class (R187). -/
theorem exec_ex_of_catchAll {i : Instr} (s : State) (hi : i.cls = .load ∨ i.cls = .store ∨ i.cls = .other) :
    exec i (s.atStage .ex) = exCatchAll (s.atStage .ex).exIr := by
  cases i with
  | lui | lb | lh | lw | sb | sh | sw
  | opcode01 | opcode02 | opcode03 | opcode04 | opcode05 | opcode06 | opcode07 | opcode0a | opcode0b
  | opcode10 | opcode11 | opcode12 | opcode13 | opcode14 | opcode15 | opcode16 | opcode17
  | opcode18 | opcode19 | opcode1a | opcode1b | opcode1c | opcode1d | opcode1e | opcode1f
  | opcode22 | opcode24 | opcode25 | opcode26 | opcode27 | opcode2a | opcode2c | opcode2d | opcode2e | opcode2f
  | opcode30 | opcode31 | opcode32 | opcode33 | opcode34 | opcode35 | opcode36 | opcode37
  | opcode38 | opcode39 | opcode3a | opcode3b | opcode3c | opcode3d | opcode3e | opcode3f => rfl
  | _ => simp [Instr.cls] at hi

/-- The catch-all arm after `EXMEM.IR` is written: the address and `x[rt]` (R187). -/
theorem exCatchAll_exIr (s : State) :
    exCatchAll s.exIr = .next { s with exmem := ⟨s.idex.ir, s.exmem.a, s.opB, s.opA + s.idex.imm⟩ } := rfl

/-- Settles O59: the class gives the opcode, and the arm of the three classes is the catch-all arm. -/
theorem catchAllComputesTheAddressAndCapturesRt : Obligations.CatchAllComputesTheAddressAndCapturesRt := by
  intro i s hi hex
  have harm := exec_ex_of_catchAll s hi
  rw [State.atStage_eq_self hex, exCatchAll_exIr] at harm
  exact ⟨opcodeField_encode_mem_catchAll hi, harm⟩

end Sys2Proof.Machine

/-! PROOFS. The memory stage: O17, O21, O22, O38, O39, O42, O43, O44 (R62, R63, R64, R121, R200 to R214, R300).
`exec_mem` takes every instruction to one of three arms of MEM; `MemWbWritten` says what they leave in MEM/WB, of which
`CycleEffect` says nothing. `AccessLatched` carries a LOAD or a STORE from IF/ID to the access that MEM makes for it. -/

namespace Sys2Proof.Machine
open Sys2Proof.Statement

/-! ### The arms of MEM -/

/-- What MEM does for an instruction that is neither a LOAD nor a STORE (R203). -/
theorem exec_mem_of_pass {i : Instr} {s : State} (hload : i.cls ≠ .load) (hstore : i.cls ≠ .store) :
    exec i (s.atStage .mem) = memPass (s.atStage .mem) := by
  rw [exec_mem]
  split
  · next hc => exact absurd hc hload
  · next hc => exact absurd hc hstore
  · rfl

theorem exec_mem_of_load {i : Instr} {s : State} (hload : i.cls = .load) :
    exec i (s.atStage .mem) = memLoad (s.atStage .mem) := by
  rw [exec_mem, hload]

theorem exec_mem_of_store {i : Instr} {s : State} (hstore : i.cls = .store) :
    exec i (s.atStage .mem) = memStore (s.atStage .mem) := by
  rw [exec_mem, hstore]

theorem memPass_eq (s : State) :
    memPass s = .next { s with memwb := ⟨s.exmem.ir, s.exmem.aluOutput, s.memwb.lmd⟩ } := rfl

theorem memLoad_of_read32 {s : State} {v : Word} (h : read32 s.cfg.regions s.mem s.exmem.aluOutput = some v) :
    memLoad s = .next { s with memwb := ⟨s.exmem.ir, s.memwb.aluOutput, v⟩ } := by
  rw [memLoad, h]
  rfl

theorem memStore_of_write32 {s : State} {m : Memory}
    (h : write32 s.cfg.regions s.mem s.exmem.aluOutput s.exmem.b = some m) :
    memStore s = .next { s with memwb := ⟨s.exmem.ir, s.memwb.aluOutput, s.memwb.lmd⟩, mem := m } := by
  rw [memStore, h]
  rfl

/-! ### The statements about one instruction -/

/-- Settles O42: every class but LOAD and STORE takes the pass-through arm. -/
theorem memoryStagePassesTheResult : Obligations.MemoryStagePassesTheResult := by
  intro i s hload hstore hstage
  have harm := exec_mem_of_pass (s := s) hload hstore
  rwa [State.atStage_eq_self hstage, memPass_eq] at harm

/-- Settles O43: the four are of class LOAD, and where the address falls says what `read32` answers. -/
theorem memoryStageOfTheLoads : Obligations.MemoryStageOfTheLoads := by
  intro rs rt imm s hstage i hi
  have hcls : i.cls = .load := by
    simp only [List.mem_cons, List.not_mem_nil, or_false] at hi
    rcases hi with rfl | rfl | rfl | rfl <;> rfl
  have harm := exec_mem_of_load (s := s) hcls
  rw [State.atStage_eq_self hstage] at harm
  rw [harm]
  exact ⟨fun hin => memLoad_of_read32 (read32_of_inside hin s.mem),
    fun hout => memLoad_of_read32 (read32_of_unmapped hout s.mem)⟩

/-- Settles O44: the three are of class STORE; inside a region memory becomes `setWord`, whose bytes are known, and at
an unmapped address it stays. -/
theorem memoryStageOfTheStores : Obligations.MemoryStageOfTheStores := by
  intro rs rt imm s hstage hwf i hi
  have hcls : i.cls = .store := by
    simp only [List.mem_cons, List.not_mem_nil, or_false] at hi
    rcases hi with rfl | rfl | rfl <;> rfl
  have harm := exec_mem_of_store (s := s) hcls
  rw [State.atStage_eq_self hstage] at harm
  rw [harm]
  refine ⟨fun hin => ⟨_, memStore_of_write32 (write32_of_inside hin s.mem _), wordAt_setWord _ _ _ hwf,
    fun k hk => byteAt_setWord_outside _ _ k _ hwf hk⟩, fun hout => ?_⟩
  exact memStore_of_write32 (write32_of_unmapped hout s.mem _)

/-! ### When a cycle completes -/

theorem exists_step_next_iff {s : State} (hr : s.running = true) : (∃ t, step s = .next t) ↔ cycleStop s = none := by
  have hends := cycle_endsAs s
  rw [← step_running hr] at hends
  refine ⟨fun ⟨t, ht⟩ => ?_, fun hnone => ?_⟩
  · cases hstop : cycleStop s with
    | none => rfl
    | some f =>
      rw [hstop] at hends
      exact nomatch ht.symm.trans hends
  · rw [hnone] at hends
    exact endsAs_none_true_iff.1 hends

/-- With the parameters at their defaults EX never stops a cycle (R141, R157, D4, D6). -/
theorem exStop_of_defaults {s : State} (hind : s.cfg.addRtIndirect = false) (hsigned : s.cfg.divSigned = false)
    (x : RegIdx → Word) : exStop s x = none := by
  simp [exStop, hind, hsigned]

theorem straddleStop_eq_none_iff (s : State) (a : Word) :
    straddleStop s a = none ↔ accessAt s.cfg.regions a ≠ .straddles := by
  simp [straddleStop]

theorem memStop_eq_none_iff (s : State) :
    memStop s = none ↔ ¬(opcodeField s.exmem.ir ∈ loadCodes ++ storeCodes ∧
      accessAt s.cfg.regions s.exmem.aluOutput = .straddles) := by
  unfold memStop
  split
  · next hop => rw [straddleStop_eq_none_iff, not_and]; exact ⟨fun h _ => h, fun h => h hop⟩
  · next hop => exact iff_of_true rfl fun h => hop h.1

theorem fetchStop_eq_none_iff (s : State) :
    fetchStop s = none ↔ accessAt s.cfg.regions (fetchAddress s) ≠ .straddles := by
  simp [fetchStop]

/-- Settles O17: a cycle completes when none of its three stops is there, and that of EX is not with the defaults. -/
theorem cycleCompletesUnlessAnAccessStraddles : Obligations.CycleCompletesUnlessAnAccessStraddles := by
  intro s hr hind hsigned
  rw [exists_step_next_iff hr, cycleStop, exStop_of_defaults hind hsigned, Option.none_or, Option.or_eq_none_iff,
    memStop_eq_none_iff, fetchStop_eq_none_iff]
  rfl

/-! ### What a cycle leaves in MEM/WB and in memory -/

/-- What MEM puts into MEM/WB in a cycle that starts from `s` (R200 to R203). -/
structure MemWbWritten (s : State) (l : MemWb) : Prop where
  ir : l.ir = s.exmem.ir
  aluOutput : l.aluOutput =
    if opcodeField s.exmem.ir ∈ loadCodes ++ storeCodes then s.memwb.aluOutput else s.exmem.aluOutput
  lmd : if opcodeField s.exmem.ir ∈ loadCodes
    then read32 s.cfg.regions s.mem s.exmem.aluOutput = some l.lmd else l.lmd = s.memwb.lmd

theorem storeCodes_disjoint_loadCodes : ∀ op ∈ storeCodes, op ∉ loadCodes := by decide

theorem memPhase_memWbWritten {s t : State} (h : memPhase s = .next t) : MemWbWritten s t.memwb := by
  have hload := cls_load_iff (decodeWord s.exmem.ir)
  have hstore := cls_store_iff (decodeWord s.exmem.ir)
  rw [encode_decodeWord] at hload hstore
  rw [memPhase, exec_mem] at h
  split at h
  · next hc =>
    have hop := hload.1 hc
    obtain ⟨v, hv, rfl⟩ := memLoad_next h
    exact ⟨rfl, by rw [if_pos (List.mem_append_left _ hop)]; rfl, by rw [if_pos hop]; exact hv⟩
  · next hc =>
    have hop := hstore.1 hc
    obtain ⟨m, -, rfl⟩ := memStore_next h
    exact ⟨rfl, by rw [if_pos (List.mem_append_right _ hop)]; rfl,
      by rw [if_neg (storeCodes_disjoint_loadCodes _ hop)]; rfl⟩
  · next hl hs =>
    have hnl := mt hload.2 hl
    obtain rfl := memPass_next h
    exact ⟨rfl, by rw [if_neg fun hm => (List.mem_append.1 hm).elim hnl (mt hstore.2 hs)]; rfl,
      by rw [if_neg hnl]; rfl⟩

/-- WB before MEM leaves what MEM reads, and EX, ID and IF after it leave MEM/WB (R241). -/
theorem cycle_memWbWritten {s t : State} (h : cycle s = .next t) : MemWbWritten s t.memwb := by
  obtain ⟨s1, s2, s3, s4, s5, hwb, hmem, hex, hid, hif, rfl⟩ := cycle_next h
  have written := memPhase_memWbWritten hmem
  obtain rfl := wbPhase_next hwb
  obtain ⟨b, v, pc, d, rfl⟩ := exPhase_next hex
  obtain rfl := idPhase_next hid
  obtain ⟨w, -, rfl⟩ := ifPhase_next hif
  exact ⟨written.ir, written.aluOutput, written.lmd⟩

theorem step_memWbWritten {s t : State} (hr : s.running = true) (h : step s = .next t) : MemWbWritten s t.memwb :=
  cycle_memWbWritten (step_running hr ▸ h)

theorem CycleEffect.write32_of_store {s t : State} (h : CycleEffect s t) (hop : opcodeField s.exmem.ir ∈ storeCodes) :
    write32 s.cfg.regions s.mem s.exmem.aluOutput s.exmem.b = some t.mem := by
  have hm := h.mem
  rwa [if_pos hop] at hm

theorem CycleEffect.mem_of_not_store {s t : State} (h : CycleEffect s t)
    (hop : opcodeField s.exmem.ir ∉ storeCodes) : t.mem = s.mem := by
  have hm := h.mem
  rwa [if_neg hop] at hm

theorem MemWbWritten.read32_of_load {s : State} {l : MemWb} (h : MemWbWritten s l)
    (hop : opcodeField s.exmem.ir ∈ loadCodes) : read32 s.cfg.regions s.mem s.exmem.aluOutput = some l.lmd := by
  have hl := h.lmd
  rwa [if_pos hop] at hl

theorem MemWbWritten.lmd_of_not_load {s : State} {l : MemWb} (h : MemWbWritten s l)
    (hop : opcodeField s.exmem.ir ∉ loadCodes) : l.lmd = s.memwb.lmd := by
  have hl := h.lmd
  rwa [if_neg hop] at hl

theorem MemWbWritten.aluOutput_of_access {s : State} {l : MemWb} (h : MemWbWritten s l)
    (hop : opcodeField s.exmem.ir ∈ loadCodes ++ storeCodes) : l.aluOutput = s.memwb.aluOutput := by
  rw [h.aluOutput, if_pos hop]

/-- Settles O21: `MemWbWritten` gives MEM/WB and `CycleEffect` memory, for each of the three kinds of opcode. -/
theorem memoryStageDispatch : Obligations.MemoryStageDispatch := by
  intro s t hr h
  have e := step_effect hr h
  have written := step_memWbWritten hr h
  refine ⟨written.ir, fun hload => ?_, fun hstore => ?_, fun hpass => ?_⟩
  · have hnotStore := fun hstore => storeCodes_disjoint_loadCodes _ hstore hload
    exact ⟨written.read32_of_load hload, written.aluOutput_of_access (List.mem_append_left _ hload),
      e.mem_of_not_store hnotStore⟩
  · exact ⟨e.write32_of_store hstore, written.aluOutput_of_access (List.mem_append_right _ hstore),
      written.lmd_of_not_load (storeCodes_disjoint_loadCodes _ hstore)⟩
  · exact ⟨by rw [written.aluOutput, if_neg hpass], written.lmd_of_not_load (hpass ∘ List.mem_append_left _),
      e.mem_of_not_store (hpass ∘ List.mem_append_right _)⟩

/-- `write32` changes no byte outside its four (R63). -/
theorem byteAt_write32_outside {rs : List Region} {m m' : Memory} {a v : Word} {k : Nat} (hm : m.wf = true)
    (h : write32 rs m a v = some m') (hk : k < a.toNat ∨ a.toNat + 3 < k) : byteAt m' k = byteAt m k := by
  rcases write32_some h with ⟨-, rfl⟩ | ⟨-, rfl⟩
  · rfl
  · exact byteAt_setWord_outside m _ k v hm hk

/-- Settles O22: memory after a cycle is that before it, or the `write32` of the STORE in MEM. -/
theorem onlyAStoreChangesMemory : Obligations.OnlyAStoreChangesMemory := by
  intro s t hr hwf h
  have e := step_effect hr h
  refine ⟨e.mem_of_not_store, fun k hk => ?_⟩
  rcases e.mem_cases with hm | hm
  · rw [hm]
  · exact byteAt_write32_outside hwf hm hk

/-! ### A LOAD or a STORE on its way to MEM and WB -/

/-- ID leaves the fields of its word in ID/EX (R125, R126). -/
theorem latchedFields_decodedLatch (held w : Word) : LatchedFields (decodedLatch held w) w where
  a := wordIdx_idxWord _
  b := wordIdx_idxWord _
  imm := fun hop => if_neg hop

/-- After ID and EX a word is in EX/MEM with what EX made of it, on the registers it read (R335). -/
theorem exMemWritten_after_two_steps {s0 s1 s2 : State} (hr0 : s0.running = true) (hr1 : s1.running = true)
    (h0 : step s0 = .next s1) (h1 : step s1 = .next s2) :
    s2.exmem.ir = s0.ifid.ir ∧ LatchedFields s1.idex s0.ifid.ir ∧
      ExMemWritten s1 (readInCycle s1 s2) s0.ifid.ir s2 := by
  have e0 := step_effect hr0 h0
  have e1 := step_effect hr1 h1
  have hir : s1.idex.ir = s0.ifid.ir := by rw [e0.idex]; rfl
  have hreads : readInCycle s1 s2 = exRegister s1 := funext e1.readInCycle_eq
  refine ⟨e1.exmemIr.trans hir, ?_, ?_⟩
  · rw [e0.idex]
    exact latchedFields_decodedLatch ..
  · rw [hreads, ← hir]
    exact cycle_exMemWritten (step_running hr1 ▸ h1)

/-- EX/MEM holds the LOAD or STORE `w` with its address and its store value, as EX made them of the registers `x` (R187,
R214). -/
structure AccessLatched (x : RegIdx → Word) (w : Word) (l : ExMem) : Prop where
  ir : l.ir = w
  address : l.aluOutput = x (rsField w) + sext32 (immField w)
  storeValue : l.b = x (rtField w)

theorem aluResult_of_catchAll {w : Word} (hop : opcodeField w ∈ loadCodes ++ storeCodes ++ otherCodes) (cfg : Config)
    (x : RegIdx → Word) : aluResult cfg x w = some (x (rsField w) + sext32 (immField w)) := by
  have hsum := aluResult_iWord_of_catchAll hop cfg x (rsField w) (rtField w) (immField w)
  rwa [iWord_of_fields] at hsum

theorem accessLatched_after_two_steps {s0 s1 s2 : State} (hr0 : s0.running = true) (hr1 : s1.running = true)
    (h0 : step s0 = .next s1) (h1 : step s1 = .next s2)
    (hop : opcodeField s0.ifid.ir ∈ loadCodes ++ storeCodes) :
    AccessLatched (readInCycle s1 s2) s0.ifid.ir s2.exmem := by
  obtain ⟨hir, hfields, written⟩ := exMemWritten_after_two_steps hr0 hr1 h0 h1
  have hcatch := List.mem_append_left otherCodes hop
  refine ⟨hir, ?_, ?_⟩
  · rw [written.result hfields, aluResult_of_catchAll hcatch, Option.getD_some]
  · rw [written.storeValue, if_pos hcatch, hfields.b]

/-- WB leaves the value it selects in the register it selects (R221). -/
theorem CycleEffect.reg_wbDest {s t : State} (h : CycleEffect s t) :
    t.cur.reg (wbDest s.memwb.ir) = wbValue s.memwb := by
  rw [h.cur]
  exact Arch.reg_setReg_self ..

/-- A LOAD or a STORE is written back into `rt` (R221). -/
theorem wbDest_of_access {w : Word} (hop : opcodeField w ∈ loadCodes ++ storeCodes) : wbDest w = rtField w := by
  obtain ⟨hne, -⟩ := catchAll_ne _ (List.mem_append_left otherCodes hop)
  exact if_neg hne

/-- WB of a LOAD puts LMD into `rt` (R206, R221). -/
theorem CycleEffect.reg_of_load {s t : State} (h : CycleEffect s t) (hop : opcodeField s.memwb.ir ∈ loadCodes) :
    t.cur.reg (rtField s.memwb.ir) = s.memwb.lmd := by
  rw [← wbDest_of_access (List.mem_append_left _ hop), h.reg_wbDest, wbValue, if_pos hop]

/-- WB of a STORE puts the ALUOutput of MEM/WB into `rt` (R212, R221). -/
theorem CycleEffect.reg_of_store {s t : State} (h : CycleEffect s t) (hop : opcodeField s.memwb.ir ∈ storeCodes) :
    t.cur.reg (rtField s.memwb.ir) = s.memwb.aluOutput := by
  rw [← wbDest_of_access (List.mem_append_right _ hop), h.reg_wbDest, wbValue,
    if_neg (storeCodes_disjoint_loadCodes _ hop)]

/-- Settles O38: MEM reads at the address EX left into LMD, and WB puts LMD into `rt`. -/
theorem loadedWordReachesItsRegister : Obligations.LoadedWordReachesItsRegister := by
  intro s0 s1 s2 s3 s4 hr0 hr1 hr2 hr3 h0 h1 h2 h3 w hop
  have haccess := List.mem_append_left storeCodes hop
  have latched := accessLatched_after_two_steps hr0 hr1 h0 h1 haccess
  have written := step_memWbWritten hr2 h2
  have hcfg : s2.cfg = s0.cfg := (step_effect hr1 h1).cfg.trans (step_effect hr0 h0).cfg
  have hir : s3.memwb.ir = w := written.ir.trans latched.ir
  have hread := written.read32_of_load (latched.ir ▸ hop)
  have hwb := (step_effect hr3 h3).reg_of_load (hir ▸ hop)
  rw [hir] at hwb
  rw [latched.address, hcfg] at hread
  rw [hwb]
  exact hread

/-- Settles O39: MEM writes the latched store value at the address EX left and holds ALUOutput, which WB puts into
`rt`. -/
theorem storeReachesMemoryAndOverwritesItsRegister : Obligations.StoreReachesMemoryAndOverwritesItsRegister := by
  intro s0 s1 s2 s3 s4 hr0 hr1 hr2 hr3 h0 h1 h2 h3 w hop
  have haccess := List.mem_append_right loadCodes hop
  have latched := accessLatched_after_two_steps hr0 hr1 h0 h1 haccess
  have written := step_memWbWritten hr2 h2
  have hcfg : s2.cfg = s0.cfg := (step_effect hr1 h1).cfg.trans (step_effect hr0 h0).cfg
  have hir : s3.memwb.ir = w := written.ir.trans latched.ir
  refine ⟨?_, ?_⟩
  · have hwrite := (step_effect hr2 h2).write32_of_store (latched.ir ▸ hop)
    rwa [latched.address, latched.storeValue, hcfg] at hwrite
  · have hwb := (step_effect hr3 h3).reg_of_store (hir ▸ hop)
    rw [← hir, hwb, written.aluOutput_of_access (latched.ir ▸ haccess)]

end Sys2Proof.Machine

/-! PROOFS. Writeback and the counters: O23, O28, O45 (R221, R222, R225, R226). `exec_wb` takes every instruction to the one
arm of WB; `CycleEffect` says what that arm leaves in `CUR` after a cycle and that both counters have advanced;
`runCycles_keeps` carries a property of one step to every bounded run. -/

namespace Sys2Proof.Machine
open Sys2Proof.Statement

/-! ### WB -/

/-- Settles O45: all 127 constructors take `wbWrite`, and an instruction's destination is the one its word selects. -/
theorem writebackStageOfEveryInstruction : Obligations.WritebackStageOfEveryInstruction := by
  intro i s hstage
  have hwb := exec_wb i s
  rw [State.atStage_eq_self hstage, dest_eq_wbDest] at hwb
  exact hwb

/-- After a completed cycle every register but the one that WB selects is as before (R220, R221). -/
theorem CycleEffect.reg {s t : State} (h : CycleEffect s t) (i : RegIdx) :
    t.cur.reg i = if i = wbDest s.memwb.ir then wbValue s.memwb else s.cur.reg i := by
  rw [h.cur]
  exact Arch.reg_setReg ..

/-- Settles O23: the destination is `wbDest` and the value `wbValue` of what MEM/WB held. -/
theorem writebackWritesTheSelectedRegister : Obligations.WritebackWritesTheSelectedRegister := by
  intro s t hr h
  have e := step_effect hr h
  exact ⟨e.reg, e.instructionCount⟩

/-! ### The counters -/

/-- A bounded run of a halted core changes nothing (R246, R248). -/
theorem runCycles_halted {s : State} (h : s.Halted) (n : Nat) : runCycles n s = .next s := by
  cases n with
  | zero => rfl
  | succ n => simp [runCycles, h]

/-- A property that every step of a running core keeps holds at the end of a bounded run (R248). -/
theorem runCycles_keeps {P : State → Prop} (hstep : ∀ s t, s.running = true → step s = .next t → P s → P t)
    {n : Nat} {s t : State} (h : runCycles n s = .next t) (hs : P s) : P t := by
  induction n generalizing s with
  | zero =>
    cases h
    exact hs
  | succ n ih =>
    cases hr : s.running with
    | false =>
      rw [runCycles_halted hr] at h
      cases h
      exact hs
    | true =>
      rw [runCycles_running hr, andThen_next] at h
      obtain ⟨u, hu, hrest⟩ := h
      exact ih hrest (hstep s u hr hu hs)

theorem resetWith_counters {cfg : Config} {p : Option (List Word)} {s : State} (h : State.resetWith cfg p = .next s) :
    s.instructionCount = 0#32 ∧ s.cycleCount = 0#32 := by
  obtain ⟨ws, m, -, -, rfl⟩ := resetWith_next h
  exact ⟨rfl, rfl⟩

theorem step_counters {s t : State} (hr : s.running = true) (h : step s = .next t) :
    t.instructionCount = s.instructionCount + 1 ∧ t.cycleCount = s.cycleCount + 1 :=
  have e := step_effect hr h
  ⟨e.instructionCount, e.cycleCount⟩

/-- Settles O28: reset makes the counters equal, and a step, which adds 1 to both, keeps them so, hence every bounded
run. -/
theorem countersAdvanceTogether : Obligations.CountersAdvanceTogether := by
  refine ⟨fun _ _ _ => resetWith_counters, fun _ _ => step_counters, fun cfg p s n t hreset hrun => ?_⟩
  have keeps_equal : ∀ u v : State, u.running = true → step u = .next v → u.instructionCount = u.cycleCount →
      v.instructionCount = v.cycleCount := by
    intro u v hr h heq
    obtain ⟨hi, hc⟩ := step_counters hr h
    rw [hi, hc, heq]
  obtain ⟨hi, hc⟩ := resetWith_counters hreset
  exact runCycles_keeps keeps_equal hrun (hi.trans hc.symm)

end Sys2Proof.Machine

/-! PROOFS. Pipeline control and the host: O12, O14, O15, O16, O27, O30, O31, O32, O35, O36, O60 (R241 to R256, R330). A
bounded run is its first step and the rest; the loader is its first write and the rest, and what it writes is said once by
`byteAt_load_outside` and `read32_load`. Each port is the value that `CycleEffect` or `MemWbWritten` has for it. -/

namespace Sys2Proof.Machine
open Sys2Proof.Statement

/-! ### Steps and bounded runs -/

theorem andThen_congr {o : Result} {f g : State → Result} (h : ∀ t, o = .next t → f t = g t) :
    andThen o f = andThen o g := by
  cases o with
  | next t => exact h t rfl
  | fault r => rfl
  | refused r => rfl

/-- Settles O15: `cycle` is the sequence of these phases, and no phase writes a latch from which a later one takes its
instruction. -/
theorem stepRunsTheLatchedInstructions : Obligations.StepRunsTheLatchedInstructions := by
  rintro s _ _ _ _ hr rfl rfl rfl rfl
  rw [step_running hr, cycle, cycleThroughEx]
  simp only [andThen_assoc]
  refine andThen_congr (o := wbPhase s.beginCycle) fun s1 hwb => ?_
  obtain rfl := wbPhase_next hwb
  refine andThen_congr fun s2 hmem => ?_
  obtain ⟨l, m, rfl, -⟩ := memPhase_next hmem
  refine andThen_congr fun s3 hex => ?_
  obtain ⟨b, v, pc, d, rfl⟩ := exPhase_next hex
  rfl

/-- Settles O16: both are the identity on a halted core. -/
theorem haltedCoreDoesNotStep : Obligations.HaltedCoreDoesNotStep :=
  fun _ n h => ⟨step_halted h, runCycles_halted h n⟩

/-- Settles O30: by induction on the first run; a halted core stays as it is in both, and a running one takes the same
first step in both. -/
theorem boundedRunsCompose : Obligations.BoundedRunsCompose := by
  intro n m s
  induction n generalizing s with
  | zero => rw [Nat.zero_add, runCycles, andThen_of_next]
  | succ n ih =>
    cases hr : s.running with
    | false => simp only [runCycles_halted hr, andThen_of_next]
    | true =>
      calc runCycles (n + 1 + m) s
        _ = andThen (step s) (runCycles (n + m)) := by rw [Nat.add_right_comm, runCycles_running hr]
        _ = andThen (step s) fun t => andThen (runCycles n t) (runCycles m) := by rw [funext ih]
        _ = andThen (runCycles (n + 1) s) (runCycles m) := by rw [runCycles_running hr, andThen_assoc]

/-! ### Runs to completion -/

theorem runToCompletion_halted {s : State} (h : s.Halted) (n : Nat) : runToCompletion n s = .halted s := by
  cases n <;> simp [runToCompletion, h]

/-- How a run to completion ends whose bounded run of the same length ends so (R249, D20). -/
def completionOf : Result → Completion
  | .next t => if t.running then .outOfFuel t else .halted t
  | .fault r => .fault r
  | .refused r => .refused r

/-- The fuel is a number of cycles: both runs stop at a halt and else go on with the same cycle. -/
theorem runToCompletion_eq (n : Nat) (s : State) : runToCompletion n s = completionOf (runCycles n s) := by
  induction n generalizing s with
  | zero => rfl
  | succ n ih =>
    cases hr : s.running with
    | false => simp [runToCompletion_halted hr, runCycles_halted hr, completionOf, hr]
    | true =>
      simp only [runToCompletion, runCycles, hr, if_true]
      cases cycle s with
      | next t => exact ih t
      | fault r => rfl
      | refused r => rfl

theorem completionOf_eq_iff (o : Result) (t : State) :
    (completionOf o = .halted t ↔ o = .next t ∧ t.running = false) ∧
      (completionOf o = .outOfFuel t ↔ o = .next t ∧ t.running = true) := by
  cases o with
  | next u =>
    by_cases hut : u = t
    · subst hut
      cases hu : u.running <;> simp [completionOf, hu]
    · cases hu : u.running <;> simp [completionOf, hu, hut]
  | fault r => simp [completionOf]
  | refused r => simp [completionOf]

/-- Settles O32: the end of the bounded run says how the run to completion ends. -/
theorem runToCompletionIsABoundedRun : Obligations.RunToCompletionIsABoundedRun := by
  intro fuel s t
  rw [runToCompletion_eq]
  exact completionOf_eq_iff _ t

/-- Settles O31: the halting cycle has the effect of every cycle, and a halted core does not change. -/
theorem haltLastsUntilReset : Obligations.HaltLastsUntilReset := by
  intro s t hr h hhalt
  have e := step_effect hr h
  refine ⟨e.cycleCount, e.instructionCount, by rw [e.idex]; rfl, fun n => ⟨?_, runCycles_halted hhalt n,
    runToCompletion_halted hhalt n⟩⟩
  rw [runCycles_running hr, h, andThen_of_next, runCycles_halted hhalt]

/-! ### The diagnostic of a division by zero -/

/-- Settles O27: the diagnostic output after a cycle is that of EX, on the registers EX reads. -/
theorem divisionByZeroEmitsOneDiagnostic : Obligations.DivisionByZeroEmitsOneDiagnostic := by
  intro s t hr h
  have e := step_effect hr h
  simp only [e.diag, e.readInCycle_eq, diagAfterEx, IsDivision, and_assoc, State.cycleNumber]

theorem diagAfterEx_ne_iff (s : State) (x : RegIdx → Word) :
    diagAfterEx s x ≠ s.diag ↔ IsDivision s.idex.ir ∧ x (wordIdx s.idex.b) = 0#32 := by
  unfold diagAfterEx
  split
  · next hc => exact iff_of_true (by simp) hc
  · next hc => exact iff_of_false (by simp) hc

/-! ### Presets -/

/-- Settles O14: a register preset is `setReg` on `CUR`, a memory preset puts what `write32` answers into memory. -/
theorem presetsWriteOneRegisterOrWord : Obligations.PresetsWriteOneRegisterOrWord := by
  refine fun s i v => ⟨⟨rfl, rfl, fun j => Arch.reg_setReg s.cur i j v⟩, fun a t h => ?_⟩
  obtain ⟨m, hm, rfl⟩ := presetMem_next h
  exact ⟨hm, rfl⟩

/-! ### The host's operations keep the invariant -/

/-- The loader writes into regions or not at all (R60, R250). -/
theorem load_mappedIn {rs : List Region} {ws : List Word} {m m' : Memory} {a : Word} (hm : m.MappedIn rs)
    (h : load rs m a ws = .ok m') : m'.MappedIn rs := by
  induction ws generalizing m a with
  | nil =>
    cases h
    exact hm
  | cons w ws ih =>
    rw [load] at h
    split at h
    · next m1 hwrite => exact ih (write32_mappedIn hm hwrite) h
    · cases h

/-- The invariant speaks of memory in two clauses alone. -/
theorem State.Inv.with_mem {s : State} (h : s.Inv) {m : Memory} (hwf : m.wf = true) (hmap : m.MappedIn s.cfg.regions) :
    { s with mem := m }.Inv :=
  { h with memWf := hwf, memMapped := hmap }

theorem resetWith_inv {cfg : Config} {p : Option (List Word)} {s : State} (hcfg : cfg.wellFormed = true)
    (h : State.resetWith cfg p = .next s) : s.Inv := by
  obtain ⟨ws, m, -, hload, rfl⟩ := resetWith_next h
  have hempty : Memory.MappedIn cfg.regions [] := fun _ hc => nomatch hc
  exact (blank_inv hcfg).with_mem (load_wf _ ws [] m _ rfl hload) (load_mappedIn hempty hload)

theorem State.Inv.presetReg {s : State} (h : s.Inv) (i : RegIdx) (v : Word) : (s.presetReg i v).Inv :=
  { h with nxtEqCur := rfl }

theorem State.Inv.presetMem {s t : State} {a v : Word} (h : s.Inv) (hpreset : s.presetMem a v = .next t) : t.Inv := by
  obtain ⟨m, hm, rfl⟩ := presetMem_next hpreset
  exact h.with_mem (write32_wf h.memWf hm) (write32_mappedIn h.memMapped hm)

/-- Settles O35: the blank state has the invariant, and the loader and both presets keep it. -/
theorem hostOperationsKeepTheInvariant : Obligations.HostOperationsKeepTheInvariant :=
  ⟨fun _ _ _ => resetWith_inv, fun _ i v h => h.presetReg i v, fun _ _ _ _ h => h.presetMem⟩

/-! ### The ports -/

theorem bumpsPc_iff (i : Instr) : i.bumpsPc = true ↔
    opcodeField (encode i) = 0#6 ∧ functField (encode i) = 0x00#6 ∧ rdField (encode i) ≠ 0#5 := by
  cases i <;> simp [Instr.bumpsPc, encode]

theorem divides_iff (i : Instr) : i.divides = true ↔ IsDivision (encode i) := by
  cases i <;> simp [Instr.divides, encode, IsDivision]

theorem encode_inEx (s : State) : encode s.inEx = s.idex.ir := encode_decodeWord _

theorem encode_inMem (s : State) : encode s.inMem = s.exmem.ir := encode_decodeWord _

/-- The port of the fetch address is the address of R123. -/
theorem fetchAddr_eq_fetchAddress (s : State) : s.fetchAddr = fetchAddress s := by
  simp only [State.fetchAddr, bumpsPc_iff, encode_inEx, fetchAddress]

/-- The operand that the diagnostic pulse tests is the one EX reads (R140, R223). -/
theorem exReads_eq_exRegister (s : State) (i : RegIdx) : s.exReads i = exRegister s i := by
  have hdest : s.inWb.dest = wbDest s.memwb.ir := by rw [dest_eq_wbDest, State.inWb, encode_decodeWord]
  have hvalue : s.wbValue = wbValue s.memwb := wbValue_of_cls s.memwb
  rw [State.exReads, State.afterWb, hdest, hvalue, Arch.reg_setReg]
  rfl

theorem inMem_load_iff (s : State) : s.inMem.cls = .load ↔ opcodeField s.exmem.ir ∈ loadCodes := by
  rw [cls_load_iff, encode_inMem]

theorem inMem_store_iff (s : State) : s.inMem.cls = .store ↔ opcodeField s.exmem.ir ∈ storeCodes := by
  rw [cls_store_iff, encode_inMem]

/-- The memory that the port of the fetched word reads is the one that the cycle leaves (R74). -/
theorem CycleEffect.memAfterStore {s t : State} (h : CycleEffect s t) : s.memAfterStore = some t.mem := by
  have hm := h.mem
  unfold State.memAfterStore
  split at hm
  · next hop => rw [if_pos ((inMem_store_iff s).2 hop), hm]
  · next hop => rw [if_neg (mt (inMem_store_iff s).1 hop), hm]

/-- The pulse comes when EX divides by zero (R255, R256). -/
theorem ports_diagDiv0_iff {s : State} (hr : s.running = true) :
    s.ports.diagDiv0 = true ↔ IsDivision s.idex.ir ∧ exRegister s (wordIdx s.idex.b) = 0#32 := by
  simp only [State.ports, hr, Bool.true_and, Bool.and_eq_true, decide_eq_true_eq, divides_iff, encode_inEx,
    exReads_eq_exRegister]

theorem ports_dmemWe_iff {s : State} (hr : s.running = true) :
    s.ports.dmemWe = true ↔ opcodeField s.exmem.ir ∈ storeCodes := by
  simp only [State.ports, hr, Bool.true_and, decide_eq_true_eq, inMem_store_iff]

/-- The data port shows the access of a LOAD or a STORE: its address, and the word there before it (R255). -/
theorem ports_dmem_of_access {s : State}
    (hop : opcodeField s.exmem.ir ∈ loadCodes ∨ opcodeField s.exmem.ir ∈ storeCodes) :
    s.ports.dmemAddr = some s.exmem.aluOutput ∧
      s.ports.dmemRdata = read32 s.cfg.regions s.mem s.exmem.aluOutput := by
  rw [← inMem_load_iff s, ← inMem_store_iff s] at hop
  exact ⟨if_pos hop, if_pos hop⟩

/-- Settles O36: `CycleEffect` has the fetch and the diagnostic, `MemWbWritten` the word loaded; `running` gates the write
enable and the pulse. -/
theorem portsShowTheCycle : Obligations.PortsShowTheCycle := by
  refine ⟨fun s t hr h => ?_, fun s hr => by simp [State.ports, hr]⟩
  have e := step_effect hr h
  obtain ⟨w, hread, hifid⟩ := e.ifid
  refine ⟨by rw [hifid]; exact fetchAddr_eq_fetchAddress s, ?_, ports_dmemWe_iff hr, fun hload => ?_,
    fun hstore => ?_, ?_, hr⟩
  · change s.memAfterStore.bind (read32 s.cfg.regions · s.fetchAddr) = some t.ifid.ir
    rw [e.memAfterStore, fetchAddr_eq_fetchAddress s, Option.bind_some, hread, hifid]
  · obtain ⟨haddr, hdata⟩ := ports_dmem_of_access (.inl hload)
    exact ⟨haddr, hdata.trans ((step_memWbWritten hr h).read32_of_load hload)⟩
  · exact ⟨(ports_dmem_of_access (.inr hstore)).1, rfl⟩
  · rw [e.diag, diagAfterEx_ne_iff, ports_diagDiv0_iff hr]

/-! ### The loader -/

/-- The address of word `k` of words that are loaded from `a` on (R250). -/
def loadAddress (a : Word) (k : Nat) : Word := a + BitVec.ofNat 32 (4 * k)

theorem programAddress_eq (cfg : Config) (k : Nat) : programAddress cfg k = loadAddress cfg.textBase k := rfl

@[simp] theorem loadAddress_zero (a : Word) : loadAddress a 0 = a := by
  simp [loadAddress]

theorem toNat_loadAddress (a : Word) (k : Nat) : (loadAddress a k).toNat = (a.toNat + 4 * k) % 2 ^ 32 := by
  simp [loadAddress]

theorem loadAddress_add_four (a : Word) (k : Nat) : loadAddress (a + 4) k = loadAddress a (k + 1) := by
  apply BitVec.eq_of_toNat_eq
  have h4 : (4 : Word).toNat = 4 := rfl
  rw [toNat_loadAddress, toNat_loadAddress, BitVec.toNat_add, h4]
  omega

theorem load_cons_of_write32 {rs : List Region} {m m' : Memory} {a w : Word} (h : write32 rs m a w = some m')
    (ws : List Word) : load rs m a (w :: ws) = load rs m' (a + 4) ws := by
  rw [load, h]

theorem load_cons_of_straddles {rs : List Region} {a : Word} (h : accessAt rs a = .straddles) (m : Memory) (w : Word)
    (ws : List Word) : load rs m a (w :: ws) = .error a := by
  rw [load, (write32_none_iff rs m a w).2 h]

theorem exists_write32 {rs : List Region} {a : Word} (h : accessAt rs a ≠ .straddles) (m : Memory) (w : Word) :
    ∃ m', write32 rs m a w = some m' :=
  Option.ne_none_iff_exists'.1 (mt (write32_none_iff rs m a w).1 h)

theorem load_cons_ok {rs : List Region} {m m' : Memory} {a w : Word} {ws : List Word}
    (h : load rs m a (w :: ws) = .ok m') : ∃ m1, write32 rs m a w = some m1 ∧ load rs m1 (a + 4) ws = .ok m' := by
  rw [load] at h
  split at h
  · next m1 hwrite => exact ⟨m1, hwrite, h⟩
  · cases h

/-- The loader stops at the first word that straddles (R64, D21). -/
theorem load_error_of_first_straddle {rs : List Region} {ws : List Word} {m : Memory} {a : Word} {k : Nat}
    (hk : k < ws.length) (hstr : accessAt rs (loadAddress a k) = .straddles)
    (hfirst : ∀ j, j < k → accessAt rs (loadAddress a j) ≠ .straddles) :
    load rs m a ws = .error (loadAddress a k) := by
  induction ws generalizing m a k with
  | nil => cases hk
  | cons w ws ih =>
    cases k with
    | zero =>
      rw [loadAddress_zero] at hstr ⊢
      exact load_cons_of_straddles hstr m w ws
    | succ k =>
      obtain ⟨m1, hwrite⟩ := exists_write32 (loadAddress_zero a ▸ hfirst 0 k.succ_pos) m w
      rw [load_cons_of_write32 hwrite, ← loadAddress_add_four]
      rw [← loadAddress_add_four] at hstr
      refine ih (Nat.lt_of_succ_lt_succ hk) hstr fun j hj => ?_
      rw [loadAddress_add_four]
      exact hfirst _ (Nat.succ_lt_succ hj)

/-- The loader answers memory when no word straddles. -/
theorem load_ok_of_no_straddle {rs : List Region} {ws : List Word} {a : Word}
    (h : ∀ k, k < ws.length → accessAt rs (loadAddress a k) ≠ .straddles) (m : Memory) :
    ∃ m', load rs m a ws = .ok m' := by
  induction ws generalizing m a with
  | nil => exact ⟨m, rfl⟩
  | cons w ws ih =>
    obtain ⟨m1, hwrite⟩ := exists_write32 (loadAddress_zero a ▸ h 0 (Nat.succ_pos _)) m w
    rw [load_cons_of_write32 hwrite]
    refine ih (fun k hk => ?_) m1
    rw [loadAddress_add_four]
    exact h _ (Nat.succ_lt_succ hk)

/-- The byte is none of the four at the address. -/
abbrev OutsideWord (addr : Word) (b : Nat) : Prop := b < addr.toNat ∨ addr.toNat + 3 < b

/-- The loader leaves a byte that no word in a region covers (R63, R72, R250). -/
theorem byteAt_load_outside {rs : List Region} {ws : List Word} {m m' : Memory} {a : Word} {b : Nat}
    (hwf : m.wf = true) (h : load rs m a ws = .ok m')
    (hb : ∀ k, k < ws.length → accessAt rs (loadAddress a k) = .inside → OutsideWord (loadAddress a k) b) :
    byteAt m' b = byteAt m b := by
  induction ws generalizing m a with
  | nil =>
    cases h
    rfl
  | cons w ws ih =>
    obtain ⟨m1, hwrite, hrest⟩ := load_cons_ok h
    have htail : byteAt m' b = byteAt m1 b := by
      refine ih (write32_wf hwf hwrite) hrest fun k hk => ?_
      rw [loadAddress_add_four]
      exact hb _ (Nat.succ_lt_succ hk)
    rw [htail]
    rcases write32_some hwrite with ⟨-, rfl⟩ | ⟨hin, rfl⟩
    · rfl
    · have hout := hb 0 (Nat.succ_pos _)
      rw [loadAddress_zero] at hout
      exact byteAt_setWord_outside m _ b w hwf (hout hin)

/-- Words that are loaded after the one at `a`, within the address space, cover none of its bytes. -/
theorem outsideWord_loadAddress_succ {a : Word} {k d : Nat} (hk : 4 * (k + 2) ≤ 2 ^ 32) (hd : d ≤ 3) :
    OutsideWord (loadAddress a (k + 1)) (a.toNat + d) := by
  unfold OutsideWord
  rw [toNat_loadAddress]
  omega

/-- The words loaded after the one at `a` leave that one as it is. -/
theorem wordAt_load_rest {rs : List Region} {ws : List Word} {m m' : Memory} {a : Word} (hwf : m.wf = true)
    (hlen : 4 * (ws.length + 1) ≤ 2 ^ 32) (h : load rs m (a + 4) ws = .ok m') :
    wordAt m' a.toNat = wordAt m a.toNat := by
  have hbyte : ∀ d, d ≤ 3 → byteAt m' (a.toNat + d) = byteAt m (a.toNat + d) := fun d hd =>
    byteAt_load_outside hwf h fun k hk _ => by
      rw [loadAddress_add_four]
      exact outsideWord_loadAddress_succ (by omega) hd
  have hfirst := hbyte 0 (by omega)
  rw [Nat.add_zero] at hfirst
  rw [wordAt, hfirst, hbyte 1 (by omega), hbyte 2 (by omega), hbyte 3 (by omega), wordAt]

/-- A loaded word is read back where it lies in a region, and a word at an unmapped address went nowhere (R62, R63,
R250). -/
theorem read32_load {rs : List Region} {ws : List Word} {m m' : Memory} {a w : Word} {k : Nat} (hwf : m.wf = true)
    (hlen : 4 * ws.length ≤ 2 ^ 32) (h : load rs m a ws = .ok m') (hw : ws[k]? = some w) :
    read32 rs m' (loadAddress a k) = some (if accessAt rs (loadAddress a k) = .unmapped then 0#32 else w) := by
  induction ws generalizing m a k with
  | nil => cases hw
  | cons v ws ih =>
    obtain ⟨m1, hwrite, hrest⟩ := load_cons_ok h
    have hwf1 := write32_wf hwf hwrite
    rw [List.length_cons] at hlen
    cases k with
    | zero =>
      obtain rfl : v = w := by simpa using hw
      rw [loadAddress_zero]
      rcases write32_some hwrite with ⟨hout, -⟩ | ⟨hin, rfl⟩
      · rw [read32_of_unmapped hout, if_pos hout]
      · rw [read32_of_inside hin, wordAt_load_rest hwf1 hlen hrest, wordAt_setWord m _ v hwf, hin]
        rfl
    | succ k =>
      rw [← loadAddress_add_four]
      exact ih hwf1 (by omega) hrest hw

theorem loadProgram_of_load {cfg : Config} {m m' : Memory} {ws : List Word}
    (h : load cfg.regions m cfg.textBase ws = .ok m') : loadProgram cfg m ws = .ok ⟨m', ws.length⟩ := by
  rw [loadProgram, h]

theorem resetWith_of_loaded {cfg : Config} {ws : List Word} {l : Loaded} (h : loadProgram cfg [] ws = .ok l) :
    State.resetWith cfg (some ws) = .next { State.blank cfg with mem := l.mem } := by
  simp only [State.resetWith, h]

theorem resetWith_of_error {cfg : Config} {ws : List Word} {a : Word} (h : loadProgram cfg [] ws = .error a) :
    State.resetWith cfg (some ws) = .fault (.straddleAccess a 0 []) := by
  simp only [State.resetWith, h]

/-- Settles O60: the loader stops at the first straddling word, or else each word is where `write32` put it. -/
theorem loaderPutsEachWordWhereWrite32Does : Obligations.LoaderPutsEachWordWhereWrite32Does := by
  intro cfg program
  simp only [programAddress_eq]
  refine ⟨fun k hk hstr hfirst => ?_, fun hno hlen => ?_⟩
  · have herror := loadProgram_error.2 (load_error_of_first_straddle (m := []) hk hstr hfirst)
    exact ⟨herror, resetWith_of_error herror⟩
  · obtain ⟨m, hload⟩ := load_ok_of_no_straddle hno []
    have hprogram := loadProgram_of_load hload
    exact ⟨_, _, hprogram, rfl, resetWith_of_loaded hprogram, rfl, fun k w => read32_load rfl hlen hload,
      fun b => byteAt_load_outside rfl hload⟩

theorem Config.regionsDisjoint_of_wellFormed {cfg : Config} (h : cfg.wellFormed = true) :
    regionsDisjoint cfg.regions = true := by
  simp only [Config.wellFormed, Bool.and_eq_true] at h
  obtain ⟨⟨-, hdis⟩, -⟩ := h
  exact hdis

/-- Settles O12: every word of a program that fits into the text region is inside it, at its address without wrapping, so
that the loader reads it back there and covers no other byte. -/
theorem resetLoadsTheProgram : Obligations.ResetLoadsTheProgram := by
  intro cfg r program hcfg hr hbegin hfit
  have hlt := r.endAddr.isLt
  have hbase := congrArg BitVec.toNat hbegin
  have haddr : ∀ k, k < program.length → (programAddress cfg k).toNat = cfg.textBase.toNat + 4 * k := by
    intro k hk
    rw [programAddress_eq, toNat_loadAddress]
    omega
  have hin : ∀ k, k < program.length → accessAt cfg.regions (programAddress cfg k) = .inside := by
    intro k hk
    have hk' := haddr k hk
    exact accessAt_eq_inside (Config.regionsDisjoint_of_wellFormed hcfg) hr (by omega) (by omega)
  obtain ⟨l, s, -, -, hreset, -, hread, hzero⟩ := (loaderPutsEachWordWhereWrite32Does cfg program).2
    (fun k hk => by simp [hin k hk]) (by omega)
  refine ⟨s, hreset, fun k w hw => ?_, fun b hb => hzero b fun k hk _ => ?_⟩
  · have hk : k < program.length := (List.getElem?_eq_some_iff.1 hw).1
    have hword := hread k w hw
    rwa [hin k hk] at hword
  · rw [haddr k hk]
    omega

end Sys2Proof.Machine

/-! PROOFS. Exceptions: O13 (R312, R333). Reset between cycles is `State.resetWith` at the parameters of the old state. -/

namespace Sys2Proof.Machine

theorem resetWith_none (cfg : Config) : State.resetWith cfg none = .refused .programUnreadable := rfl

theorem resetAgain_eq_resetWith (s : State) (p : Option (List Word)) : s.resetAgain p = State.resetWith s.cfg p := rfl

/-- Settles O13: the old state enters the second reset through its parameters alone. -/
theorem resetForgetsTheOldState : Obligations.ResetForgetsTheOldState := by
  refine ⟨resetWith_none, fun s t p hcfg => ?_⟩
  calc s.resetAgain p
    _ = State.resetWith s.cfg p := resetAgain_eq_resetWith s p
    _ = State.resetWith t.cfg p := by rw [hcfg]
    _ = t.resetAgain p := (resetAgain_eq_resetWith t p).symm

end Sys2Proof.Machine

/-! PROOFS. Hazards: O37, O40 (R221, R223, R224, R335, R345, R346, R347). A result is followed from EX/MEM through MEM/WB into
its register, and a register that WB never selects is followed through a bounded run. -/

namespace Sys2Proof.Machine
open Sys2Proof.Statement

/-! ### A result on its way to WB -/

theorem MemWbWritten.aluOutput_of_pass {s : State} {l : MemWb} (h : MemWbWritten s l)
    (hop : opcodeField s.exmem.ir ∉ loadCodes ++ storeCodes) : l.aluOutput = s.exmem.aluOutput := by
  rw [h.aluOutput, if_neg hop]

/-- WB of a word that is not a LOAD puts ALUOutput into the register it selects (R221). -/
theorem CycleEffect.reg_of_not_load {s t : State} (h : CycleEffect s t) (hop : opcodeField s.memwb.ir ∉ loadCodes) :
    t.cur.reg (wbDest s.memwb.ir) = s.memwb.aluOutput := by
  rw [h.reg_wbDest, wbValue, if_neg hop]

/-- Settles O37: EX leaves the result in EX/MEM, MEM passes it on, and WB puts it into the destination. -/
theorem resultReachesItsRegisterInFourCycles : Obligations.ResultReachesItsRegisterInFourCycles := by
  intro s0 s1 s2 s3 s4 hr0 hr1 hr2 hr3 h0 h1 h2 h3 w hop
  obtain ⟨hirEx, hfields, hex⟩ := exMemWritten_after_two_steps hr0 hr1 h0 h1
  have hmem := step_memWbWritten hr2 h2
  have hirMem : s3.memwb.ir = w := hmem.ir.trans hirEx
  have hnotLoad : opcodeField s3.memwb.ir ∉ loadCodes := hirMem ▸ mt (List.mem_append_left _) hop
  calc s4.cur.reg (wbDest w)
    _ = s3.memwb.aluOutput := by rw [← hirMem, (step_effect hr3 h3).reg_of_not_load hnotLoad]
    _ = s2.exmem.aluOutput := hmem.aluOutput_of_pass (hirEx ▸ hop)
    _ = (aluResult s1.cfg (readInCycle s1 s2) w).getD s1.exmem.aluOutput := hex.result hfields
    _ = (aluResult s0.cfg (readInCycle s1 s2) w).getD s1.exmem.aluOutput := by rw [(step_effect hr0 h0).cfg]

/-! ### What a run leaves as it was -/

/-- A register that WB does not select is as before (R220, R221). -/
theorem CycleEffect.reg_of_ne {s t : State} {r : RegIdx} (h : CycleEffect s t) (hr : wbDest s.memwb.ir ≠ r) :
    t.cur.reg r = s.cur.reg r := by
  rw [h.reg, if_neg hr.symm]

theorem runCycles_inv {n : Nat} {s t : State} (h : runCycles n s = .next t) (hs : s.Inv) : t.Inv :=
  runCycles_keeps (fun u v _ hstep hu => everyStepKeepsTheInvariant u v hu hstep) h hs

theorem runCycles_cfg {n : Nat} {s t : State} (h : runCycles n s = .next t) : t.cfg = s.cfg :=
  runCycles_keeps (P := fun u => u.cfg = s.cfg) (fun _ _ hr hstep hu => (step_effect hr hstep).cfg.trans hu) h rfl

/-- A register that WB selects in no cycle of a bounded run is as before it (R220, R221). -/
theorem runCycles_reg_of_ne {n : Nat} {s t : State} {r : RegIdx} (h : runCycles n s = .next t)
    (hother : ∀ m q, m < n → runCycles m s = .next q → wbDest q.memwb.ir ≠ r) : t.cur.reg r = s.cur.reg r := by
  induction n generalizing s with
  | zero =>
    cases h
    rfl
  | succ n ih =>
    cases hr : s.running with
    | false =>
      rw [runCycles_halted hr] at h
      cases h
      rfl
    | true =>
      rw [runCycles_running hr, andThen_next] at h
      obtain ⟨u, hu, hrest⟩ := h
      have hother_rest : ∀ m q, m < n → runCycles m u = .next q → wbDest q.memwb.ir ≠ r := fun m q hm hq =>
        hother (m + 1) q (Nat.succ_lt_succ hm) (by rw [runCycles_running hr, andThen_next]; exact ⟨u, hu, hq⟩)
      calc t.cur.reg r
        _ = u.cur.reg r := ih hrest hother_rest
        _ = s.cur.reg r := (step_effect hr hu).reg_of_ne (hother 0 s n.succ_pos rfl)

/-! ### Read after write -/

/-- Settles O40: the cycle in which the producer is in WB leaves its value in the register, a run in which WB selects
another register keeps it there, and EX acts on the named generation in each of the cycles, since all have the invariant
and the same parameters. -/
theorem readAfterWriteDistance : Obligations.ReadAfterWriteDistance := by
  intro s t u hs hrs hrt hst htu r value
  have est := step_effect hrs hst
  have etu := step_effect hrt htu
  have ht : t.Inv := est.inv hs
  have hdest : wbDest t.memwb.ir = r := by rw [(step_memWbWritten hrs hst).ir]
  have hvalue : u.cur.reg r = value := by rw [← hdest, etu.reg_wbDest]
  obtain ⟨cur_st, nxt_st⟩ := operandsComeFromTheNamedGeneration s t hs hrs hst
  obtain ⟨cur_tu, nxt_tu⟩ := est.cfg ▸ operandsComeFromTheNamedGeneration t u ht hrt htu
  refine ⟨hdest, hvalue, est.reg_of_ne, fun hgen => ⟨cur_st hgen, cur_tu hgen⟩,
    fun hgen => ⟨nxt_st hgen, nxt_tu hgen⟩, fun n y z hrun hry hyz hother => ?_⟩
  have hcfg : y.cfg = s.cfg := (runCycles_cfg hrun).trans (etu.cfg.trans est.cfg)
  have hheld : y.cur.reg r = value := (runCycles_reg_of_ne hrun hother).trans hvalue
  obtain ⟨cur_yz, nxt_yz⟩ :=
    hcfg ▸ operandsComeFromTheNamedGeneration y z (runCycles_inv hrun (etu.inv ht)) hry hyz
  exact ⟨hheld, cur_yz, fun hgen =>
    ⟨nxt_yz hgen, fun hne => ((step_effect hry hyz).reg_of_ne hne).trans hheld⟩⟩

end Sys2Proof.Machine
